-- ==== Sys2Proof/Word.lean ====
section
/-! DEFINITION. The word types of the ACIA block (spec rules R8, R27, R42, R61). -/

namespace Sys2Proof

/-- Eight bits, bit 0 the least significant (R8). Every transfer of the block moves one (R42). -/
abbrev Byte := BitVec 8

/-- The 16-bit operation descriptor (R61). -/
abbrev Desc := BitVec 16

/-- A sample of one of the two free-running time inputs, or a stamp taken from one: TIME_W = 32 bits (R27). -/
abbrev Time := BitVec 32

end Sys2Proof
end

