-- ==== Sys2Proof/Config.lean ====
section
/-! DEFINITION. The parameter record P of rule R7, the constants the source fixes, and the free values. -/

namespace Sys2Proof

/-- The record `P` of rule R7: what one instance of the block fixes and the source leaves OPEN.
It stands in State as data that no operation changes, so a statement about every state is a statement about every
instance; the constraints of R7's last column are `Params.wf` (WellFormed.lean). -/
structure Params where
  /-- `RX_CAPACITY`, byte slots of the Rx ring. -/
  rxCapacity : Nat
  /-- `RX_GAP_CYCLES`, what a data-register read loads into the countdown. -/
  rxGapCycles : Nat
  /-- `NMI_TIMEOUT_US`, the longest unserviced assertion of the interrupt. -/
  nmiTimeoutUs : Nat
  /-- `CMD_DEFAULT`, the command register after INIT and after the programmed reset. -/
  cmdDefault : Byte
  /-- `CTRL_RESET`, the control register after INIT. -/
  ctrlReset : Byte
  /-- `DSR_RESET`, status.dataSetReady after INIT and ever after. -/
  dsrReset : Bool
  /-- `DCD_RESET`, status.carrierDetect after INIT and ever after. -/
  dcdReset : Bool
  /-- `TX_LINE_MAX`, bytes of the line-assembly buffer. -/
  txLineMax : Nat
  /-- `CH_PLUS`, the escape character. -/
  chPlus : Byte
  /-- `CH_CR`, the line terminator. -/
  chCr : Byte
  /-- `CH_BS`, the backspace character. -/
  chBs : Byte
  /-- `CH_DEL`, the delete character. -/
  chDel : Byte
  /-- `Fold` as the table of its 256 values: R7 asks for a total function of the byte alone. -/
  foldTable : Vector Byte 256
  deriving DecidableEq, Repr

/-- The table of a function on bytes: every total `Fold` is the table of one. -/
def Params.tabulate (f : Byte → Byte) : Vector Byte 256 :=
  ⟨⟨(List.range 256).map fun n => f (BitVec.ofNat 8 n)⟩, by simp⟩

namespace Config

/-- `ESC_GUARD_MS`, fixed by the source: one second in milliseconds (R7). -/
def escGuardMs : Nat := 1000

/-- `ESC_PLUS_COUNT`, fixed by the source: three '+' characters (R7). -/
def escPlusCount : Nat := 3

/-- `RX_INT_EN_BIT`, fixed by the source: the command bit that enables the receive interrupt when it is 0 (R7, R20). -/
def rxIntEnBit : Nat := 1

/-! The OPEN parameters of the instance that `State.reset` is an instance of. None has a body, so nothing can be
proved of a value; the constraints of R7 hold by the form of `Config.params` below. -/

/-- `RX_CAPACITY - 2`: the constraint is RX_CAPACITY at least 2. -/
opaque rxCapacityLess2 : Nat
/-- `RX_GAP_CYCLES`, below 2^32. -/
opaque rxGapCycles : BitVec 32
/-- `NMI_TIMEOUT_US`, below 2^31. -/
opaque nmiTimeoutUs : BitVec 31
/-- `CMD_DEFAULT`. -/
opaque cmdDefault : Byte
/-- `CTRL_RESET`. -/
opaque ctrlReset : Byte
/-- `DSR_RESET`. -/
opaque dsrReset : Bool
/-- `DCD_RESET`. -/
opaque dcdReset : Bool
/-- `TX_LINE_MAX - 2`: the constraint is TX_LINE_MAX at least 2. -/
opaque txLineMaxLess2 : Nat
/-- `CH_PLUS`. -/
opaque chPlus : Byte
/-- `CH_CR`. -/
opaque chCr : Byte
/-- How far CH_BS lies above CH_CR, less one and modulo 256: the constraint is that the two differ. -/
opaque chBsAboveCr : Fin 255
/-- How far CH_DEL lies above CH_CR, less one and modulo 256: the constraint is that the two differ. -/
opaque chDelAboveCr : Fin 255
/-- `Fold`. -/
opaque fold : Byte → Byte

/-- The instance of `State.reset`: every field open, and every constraint of R7 met whatever the open values are. -/
def params : Params :=
  { rxCapacity := rxCapacityLess2 + 2
    rxGapCycles := rxGapCycles.toNat
    nmiTimeoutUs := nmiTimeoutUs.toNat
    cmdDefault := cmdDefault
    ctrlReset := ctrlReset
    dsrReset := dsrReset
    dcdReset := dcdReset
    txLineMax := txLineMaxLess2 + 2
    chPlus := chPlus
    chCr := chCr
    chBs := chCr + BitVec.ofNat 8 (chBsAboveCr.val + 1)
    chDel := chCr + BitVec.ofNat 8 (chDelAboveCr.val + 1)
    foldTable := Params.tabulate fold }

/-! The free values: what INIT draws where R36 and R180 say "unspecified" (93_implementation_defined.md U10, U11).
The argument is the number of the draw, `State.drawNo`; the ring and the line buffer take the address as well. -/

/-- `rxByte` after the INIT of that number (U10). -/
opaque drawRxByte : Nat → Byte
/-- `txByte` after the INIT of that number (U11). -/
opaque drawTxByte : Nat → Byte
/-- `nmiAssertTime` after the INIT of that number (U11). -/
opaque drawNmiAssertTime : Nat → Time
/-- `rxq` after the INIT of that number, at an address (U11). -/
opaque drawRxq : Nat → Nat → Byte
/-- `line` after the INIT of that number, at an address (U11). -/
opaque drawLine : Nat → Nat → Byte

/-- `now_us` when the INIT behind `State.reset` ran (R27: any value). -/
opaque resetNowUs : Time
/-- `now_ms` when the INIT behind `State.reset` ran: R36 puts it into `lastTxTime` (R27: any value). -/
opaque resetNowMs : Time

end Config

end Sys2Proof
end

