-- ==== Sys2Proof/Syntax.lean ====
section
/-! DEFINITION. The 17 operations of rule R62, the agents of rule R5, the descriptor's fields and formats (R61). -/

namespace Sys2Proof

/-- The four agents of R5. -/
inductive Agent where
  /-- Bus-access context: one operation for each host access to the four locations. -/
  | bus
  /-- Cycle context: one operation for each emulated host clock cycle. -/
  | cyc
  /-- Polling context: network I/O, protocol, Rx and Tx servicing. -/
  | poll
  /-- Start-up. -/
  | init
  deriving DecidableEq, Repr

/-- The four bus-addressable registers of R11. -/
inductive RegAddr where
  | data
  | status
  | command
  | control
  deriving DecidableEq, Repr

/-- The operations of R62, one constructor for each row of spec/opcode_table.json, in its order.
The byte is the descriptor's DATA operand, unsigned and used as is (R63). -/
inductive Instr where
  | rdData
  | rdStatus
  | rdCommand
  | rdControl
  | wrData (d : Byte)
  | wrStatus (d : Byte)
  | wrCommand (d : Byte)
  | wrControl (d : Byte)
  | tick
  | rxqPut (d : Byte)
  | rxqClear
  | rxService
  | rxFlush
  | nmiTimeoutChk
  | txService
  | escChk
  | init
  deriving DecidableEq, Repr

/-- The five descriptor formats of R61. -/
inductive Format where
  /-- Bus read. -/
  | br
  /-- Bus write. -/
  | bw
  /-- Cycle, no operand. -/
  | c0
  /-- Poll, byte operand. -/
  | pb
  /-- Poll or init, no operand. -/
  | p0
  deriving DecidableEq, Repr

/-- The four fields of a descriptor (R61). -/
structure Descriptor where
  /-- Bits 15..12, the operation group. -/
  op : BitVec 4
  /-- Bits 11..10, zero in every format. -/
  z : BitVec 2
  /-- Bits 9..8, the register address in formats BR and BW. -/
  addr : BitVec 2
  /-- Bits 7..0, the byte operand in formats BW and PB. -/
  data : Byte
  deriving DecidableEq, Repr

/-- Why a descriptor is reserved (R65). -/
inductive DecodeError where
  /-- OP is one of 0xA to 0xE. -/
  | reservedOp
  /-- Z is not 0. -/
  | zNotZero
  /-- ADDR is not 0 in format C0, PB or P0. -/
  | addrNotZero
  /-- DATA is not 0 in format BR, C0 or P0. -/
  | dataNotZero
  deriving DecidableEq, Repr

end Sys2Proof
end

