-- ==== Sys2Proof/WellFormed.lean ====
section
/-! DEFINITION. Which descriptors name an operation (R65) and which parameter records are legal (R7).
An `Instr` has no ill-formed term: its one operand is a byte by type, and R63 and R65 make every byte legal. -/

namespace Sys2Proof

/-- The format of an operation group, and none for the reserved groups 0xA to 0xE (R61, R62, R65). -/
def Format.ofOp (op : BitVec 4) : Option Format :=
  match op.toNat with
  | 0x0 => some .br
  | 0x1 => some .bw
  | 0x2 => some .c0
  | 0x3 => some .pb
  | 0x4 => some .p0
  | 0x5 => some .p0
  | 0x6 => some .p0
  | 0x7 => some .p0
  | 0x8 => some .p0
  | 0x9 => some .p0
  | 0xF => some .p0
  | _ => none

/-- Formats whose ADDR field is an operand; in the others it must be 0 (R61). -/
def Format.hasAddr : Format → Bool
  | .br => true
  | .bw => true
  | .c0 => false
  | .pb => false
  | .p0 => false

/-- Formats whose DATA field is an operand; in the others it must be 0 (R61). -/
def Format.hasData : Format → Bool
  | .br => false
  | .bw => true
  | .c0 => false
  | .pb => true
  | .p0 => false

/-- OP is none of the reserved values (R65). -/
def Descriptor.opOk (d : Descriptor) : Bool := (Format.ofOp d.op).isSome

/-- Z is 0 (R65). -/
def Descriptor.zOk (d : Descriptor) : Bool := d.z == 0

/-- ADDR is an operand of the format, or 0 (R65). -/
def Descriptor.addrOk (d : Descriptor) : Bool :=
  match Format.ofOp d.op with
  | some f => f.hasAddr || d.addr == 0
  | none => false

/-- DATA is an operand of the format, or 0 (R65). -/
def Descriptor.dataOk (d : Descriptor) : Bool :=
  match Format.ofOp d.op with
  | some f => f.hasData || d.data == 0
  | none => false

/-- The descriptor is not reserved (R65). -/
def Descriptor.wf (d : Descriptor) : Bool := d.opOk && d.zOk && d.addrOk && d.dataOk

/-- The constraints of R7's last column, which R7 calls needed for the rules to be well defined. -/
abbrev Params.wf (p : Params) : Prop :=
  2 ≤ p.rxCapacity ∧ p.rxGapCycles < 2 ^ 32 ∧ p.nmiTimeoutUs < 2 ^ 31 ∧ 2 ≤ p.txLineMax ∧
    p.chCr ≠ p.chBs ∧ p.chCr ≠ p.chDel

end Sys2Proof
end

