-- ==== Sys2Proof/Decode.lean ====
section
/-! DEFINITION. The decoder of R61, R62 and R65, and after it the encoder. -/

namespace Sys2Proof

/-- The fields of a word (R61). -/
def Descriptor.ofWord (w : Desc) : Descriptor :=
  { op := w.extractLsb' 12 4, z := w.extractLsb' 10 2, addr := w.extractLsb' 8 2, data := w.extractLsb' 0 8 }

/-- The register at a 2-bit address: data, status, command, control in that order (R11). -/
def RegAddr.ofBits (a : BitVec 2) : RegAddr :=
  match a.toNat with
  | 0 => .data
  | 1 => .status
  | 2 => .command
  | _ => .control

/-- The bus read of a register (R62, format BR). -/
def readOp : RegAddr → Instr
  | .data => .rdData
  | .status => .rdStatus
  | .command => .rdCommand
  | .control => .rdControl

/-- The bus write of a register (R62, format BW). -/
def writeOp (d : Byte) : RegAddr → Instr
  | .data => .wrData d
  | .status => .wrStatus d
  | .command => .wrCommand d
  | .control => .wrControl d

/-- Format BR: DATA must be 0 (R61, R65). -/
def decodeBusRead (f : Descriptor) : Except DecodeError Instr :=
  if f.data = 0 then .ok (readOp (.ofBits f.addr)) else .error .dataNotZero

/-- Format PB: ADDR must be 0 (R61, R65). -/
def decodePollByte (f : Descriptor) (i : Instr) : Except DecodeError Instr :=
  if f.addr = 0 then .ok i else .error .addrNotZero

/-- Formats C0 and P0: ADDR and DATA must be 0 (R61, R65). -/
def decodeBare (f : Descriptor) (i : Instr) : Except DecodeError Instr :=
  if f.addr = 0 then (if f.data = 0 then .ok i else .error .dataNotZero) else .error .addrNotZero

/-- The operation of a descriptor's fields by its OP (R62), or why it is reserved (R65). -/
def decodeFields (f : Descriptor) : Except DecodeError Instr :=
  if f.z = 0 then
    match f.op.toNat with
    | 0x0 => decodeBusRead f
    | 0x1 => .ok (writeOp f.data (.ofBits f.addr))
    | 0x2 => decodeBare f .tick
    | 0x3 => decodePollByte f (.rxqPut f.data)
    | 0x4 => decodeBare f .rxqClear
    | 0x5 => decodeBare f .rxService
    | 0x6 => decodeBare f .rxFlush
    | 0x7 => decodeBare f .nmiTimeoutChk
    | 0x8 => decodeBare f .txService
    | 0x9 => decodeBare f .escChk
    | 0xF => decodeBare f .init
    | _ => .error .reservedOp
  else .error .zNotZero

/-- The decoder: total on the 16-bit words, refusing the reserved ones by name (R62, R65). -/
def decode (w : Desc) : Except DecodeError Instr := decodeFields (.ofWord w)

/-- The bits of a table row as the one 16-bit descriptor. The block has one length and no byte order (R61, D31). -/
def tableWord (nbits w : Nat) : Desc := BitVec.ofNat 16 (w % 2 ^ nbits)

/-- What the decoder reads from a row's bits; none where it refuses, and none for bits beyond the one length. -/
def decodeTableWord (nbits w : Nat) : Option Instr :=
  if w % 2 ^ nbits < 2 ^ 16 then
    match decode (tableWord nbits w) with
    | .ok i => some i
    | .error _ => none
  else none

/-- The word of a descriptor's fields, OP highest (R61). -/
def Descriptor.toWord (f : Descriptor) : Desc := f.op ++ f.z ++ f.addr ++ f.data

/-- The fields of each operation (R62). -/
def encodeFields : Instr → Descriptor
  | .rdData => { op := 0x0, z := 0, addr := 0, data := 0 }
  | .rdStatus => { op := 0x0, z := 0, addr := 1, data := 0 }
  | .rdCommand => { op := 0x0, z := 0, addr := 2, data := 0 }
  | .rdControl => { op := 0x0, z := 0, addr := 3, data := 0 }
  | .wrData d => { op := 0x1, z := 0, addr := 0, data := d }
  | .wrStatus d => { op := 0x1, z := 0, addr := 1, data := d }
  | .wrCommand d => { op := 0x1, z := 0, addr := 2, data := d }
  | .wrControl d => { op := 0x1, z := 0, addr := 3, data := d }
  | .tick => { op := 0x2, z := 0, addr := 0, data := 0 }
  | .rxqPut d => { op := 0x3, z := 0, addr := 0, data := d }
  | .rxqClear => { op := 0x4, z := 0, addr := 0, data := 0 }
  | .rxService => { op := 0x5, z := 0, addr := 0, data := 0 }
  | .rxFlush => { op := 0x6, z := 0, addr := 0, data := 0 }
  | .nmiTimeoutChk => { op := 0x7, z := 0, addr := 0, data := 0 }
  | .txService => { op := 0x8, z := 0, addr := 0, data := 0 }
  | .escChk => { op := 0x9, z := 0, addr := 0, data := 0 }
  | .init => { op := 0xF, z := 0, addr := 0, data := 0 }

/-- The encoder: the descriptor word of an operation (R62). -/
def encode (i : Instr) : Desc := (encodeFields i).toWord

end Sys2Proof
end

