-- ==== Sys2Proof/Machine/State.lean ====
section
/-! DEFINITION. The state of rule R10, the ports of R26, R27 and R34, and the state right after reset (R36). -/

namespace Sys2Proof.Machine

/-- The input `mode` of R26: a position of the multiplexer (R132), not a privilege (R163). -/
inductive Mode where
  | offline
  | browser
  deriving DecidableEq, Repr

/-- `pollPhase`, the one control state of the block (R29). -/
inductive Phase where
  /-- The POLL agent may issue any POLL operation. -/
  | idle
  /-- A flush is draining the Rx queue. -/
  | flushing
  /-- A browser echo waits for the host to be ready. -/
  | immWait
  deriving DecidableEq, Repr

/-- Where a closed line goes (R34, R136). -/
inductive Dest where
  | at
  | browser
  deriving DecidableEq, Repr

/-- The reported conditions of R150. -/
inductive Condition where
  /-- Code 1, `RX_OVERFLOW`. -/
  | rxOverflow
  /-- Code 2, `NMI_TIMEOUT`. -/
  | nmiTimeout
  /-- Code 3, `LINE_MAXLEN`. -/
  | lineMaxLen
  deriving DecidableEq, Repr

/-- The output events of R34. -/
inductive Event where
  | transportWrite (b : Byte)
  | lineDispatch (dest : Dest) (bytes : List Byte)
  | hangupReq
  | report (c : Condition)
  deriving DecidableEq, Repr

/-- The inputs an operation samples at its start (R26, R27, R64). -/
structure Inputs where
  nowUs : Time
  nowMs : Time
  mode : Mode
  connected : Bool
  pagePaused : Bool
  deriving DecidableEq, Repr

/-- One issue of an operation: who issues it, its descriptor, and the inputs at its start (R5, R6, R64, R70). -/
structure Issue where
  agent : Agent
  word : Desc
  inputs : Inputs
  deriving DecidableEq, Repr

/-- A byte memory: the cells written since INIT, by strictly rising address. An address that is not listed holds no
written value; `State.rxqRead` and `State.lineRead` (Ops.lean) give it the value INIT drew for it. -/
abbrev Memory := List Host.Cell

/-- The two private memories of R40. The third space of R40, REG, is the four registers. -/
inductive Space where
  | rxq
  | line
  deriving DecidableEq, Repr

/-- Why the machine stops with a fault: never. "The block never stops, traps or refuses a bus access" (R150), and
93_implementation_defined.md says that the block itself never faults; so the type has no constructor, and the outcome
`fault` does not occur. Safe. -/
inductive Fault : Type
  deriving DecidableEq, Repr

/-- Why a step is refused. -/
inductive Refusal where
  /-- An instruction with no meaning yet: raised by no arm of this model. Safe. -/
  | notModelled (mnemonic : String)
  /-- Raised by `step` for a reserved descriptor: the machine refuses it (R65). Safe. -/
  | reservedDescriptor (e : DecodeError)
  /-- Raised by every operation when another agent than its own issues it (R66, R164). Safe. -/
  | wrongAgent
  /-- Raised by every operation but INIT before the first INIT (R181). Safe. -/
  | beforeInit
  /-- Raised by a POLL operation in a phase that R164 does not allow it in. Safe. -/
  | wrongPhase
  /-- Raised by RX_SERVICE in phase Idle while pagePaused is 1 (R117, R164). Safe. -/
  | pagePaused
  /-- Raised by an operation that uses the ring or the line buffer when an index is out of its space: no state that
  INIT or an operation leaves (R35) is like that, and R43 says to refuse it. Safe. -/
  | indexOutOfRange
  deriving DecidableEq, Repr

/-- The state. The first part is R10's tuple, under its names; the second is the model's own: the instance, the outputs,
and what the environment supplies. -/
@[ext]
structure State where
  /-- The last byte delivered toward the host (R12). -/
  rxByte : Byte
  /-- The last byte the host wrote to the data location (R13). -/
  txByte : Byte
  /-- Eight one-bit fields at the positions of R14. -/
  status : Byte
  /-- Raw bitfield; bit 1 low enables the receive interrupt (R20). -/
  command : Byte
  /-- Raw bitfield without a function (R21). -/
  control : Byte
  /-- The inter-character countdown (R22). -/
  countdown : Nat
  /-- The interrupt assertion, and the output `nmi` (R23, R25). -/
  nmiAsserted : Bool
  /-- `now_us` at the last delivery (R24). -/
  nmiAssertTime : Time
  /-- The Rx ring (R30). -/
  rxq : Memory
  /-- Its write index (R30). -/
  head : Nat
  /-- Its read index (R30). -/
  tail : Nat
  /-- The line-assembly buffer (R33). -/
  line : Memory
  /-- Its index (R33). -/
  offset : Nat
  /-- How many '+' of a candidate escape sequence have been forwarded (R28). -/
  plusCount : Nat
  /-- `now_ms` at the last Tx byte consumed (R28). -/
  lastTxTime : Time
  /-- The phase of the POLL agent's sequencer (R29). -/
  pollPhase : Phase
  /-- The instance: R7's record, which no operation changes. -/
  params : Params
  /-- Whether INIT has run (R181). -/
  initialised : Bool
  /-- The number of the draw that the last INIT made: the argument of Config's free values (R36). -/
  drawNo : Nat
  /-- `data_out` of the operation last issued: a byte if it was a bus read (R34, R64). -/
  dataOut : Option Byte
  /-- The events emitted so far, oldest first (R34). -/
  events : List Event
  /-- The agent that issued the operation in progress (R5). -/
  agent : Agent
  /-- The inputs sampled by the operation in progress (R26, R27). -/
  inputs : Inputs
  /-- The operations still to come, in the total order of R46: the environment's choice. -/
  schedule : List Issue
  deriving DecidableEq, Repr

/-- The status byte after INIT: txEmpty, and the two modem flags of the instance (R36). -/
def resetStatus (p : Params) : Byte :=
  0x10#8 ||| (if p.dsrReset then 0x40#8 else 0#8) ||| (if p.dcdReset then 0x20#8 else 0#8)

/-- The state right after an INIT of the instance p with inputs inp and the n-th draw, nothing issued since (R36). -/
def State.resetOf (p : Params) (inp : Inputs) (n : Nat) : State :=
  { rxByte := Config.drawRxByte n
    txByte := Config.drawTxByte n
    status := resetStatus p
    command := p.cmdDefault
    control := p.ctrlReset
    countdown := 0
    nmiAsserted := false
    nmiAssertTime := Config.drawNmiAssertTime n
    rxq := []
    head := 0
    tail := 0
    line := []
    offset := 0
    plusCount := 0
    lastTxTime := inp.nowMs
    pollPhase := .idle
    params := p
    initialised := true
    drawNo := n
    dataOut := none
    events := []
    agent := .init
    inputs := inp
    schedule := [] }

/-- The inputs at reset: the times are open, and the levels are those R183 expects the firmware to start with. -/
def resetInputs : Inputs :=
  { nowUs := Config.resetNowUs, nowMs := Config.resetNowMs, mode := .offline, connected := false, pagePaused := false }

/-- The machine right after reset: INIT has run on the open instance of Config. -/
def State.reset : State := .resetOf Config.params resetInputs 0

/-- The machine before its first INIT (R181): as after reset, but that no operation other than INIT is defined. -/
def State.powerOn : State := { State.reset with initialised := false }

end Sys2Proof.Machine
end

