-- ==== Sys2Proof/Machine/Flags.lean ====
section
/-! DEFINITION. The fields of the status register (R14) and of the command register (R20). -/

namespace Sys2Proof.Machine

/-- The eight fields of the status byte (R14). -/
inductive Flag where
  | interruptPending
  | dataSetReady
  | carrierDetect
  | txEmpty
  | rxFull
  | overrunError
  | framingError
  | parityError
  deriving DecidableEq, Repr

/-- The position of a field: the table of R14, and the only place that knows it. -/
def Flag.pos : Flag → Nat
  | .interruptPending => 7
  | .dataSetReady => 6
  | .carrierDetect => 5
  | .txEmpty => 4
  | .rxFull => 3
  | .overrunError => 2
  | .framingError => 1
  | .parityError => 0

/-- Reads a field of a status byte. -/
def getFlag (f : Flag) (st : Byte) : Bool := st.getLsbD f.pos

/-- A status byte with one field written. -/
def putFlag (f : Flag) (v : Bool) (st : Byte) : Byte :=
  if v then st ||| (1#8 <<< f.pos) else st &&& ~~~(1#8 <<< f.pos)

/-- A field of the status register. -/
abbrev State.flag (s : State) (f : Flag) : Bool := getFlag f s.status

/-- `status.f <- v` (R9). -/
def State.setFlag (f : Flag) (v : Bool) (s : State) : State := { s with status := putFlag f v s.status }

/-- `status.rxFull` and `status.interruptPending`, which are "always set/cleared together" (R15). -/
def State.setRxFlags (v : Bool) (s : State) : State := (s.setFlag .rxFull v).setFlag .interruptPending v

/-- The receive interrupt is enabled: command bit 1 is low (R20). -/
def State.rxIntEnabled (s : State) : Bool := !s.command.getLsbD Config.rxIntEnBit

/-- The code of a reported condition (R150). -/
def Condition.code : Condition → Nat
  | .rxOverflow => 1
  | .nmiTimeout => 2
  | .lineMaxLen => 3

end Sys2Proof.Machine
end

