-- ==== Sys2Proof/Machine/Operands.lean ====
section
/-! DEFINITION. What an operation is given beside the state it works on: the operand forms of its descriptor (R63),
the agent and the phases that may issue it (R62, R164), and the registers a bus address reaches (R11). -/

namespace Sys2Proof.Machine

/-- The table's mnemonic (R62). -/
def mnemonicOf : Instr → String
  | .rdData => "RD_DATA"
  | .rdStatus => "RD_STATUS"
  | .rdCommand => "RD_COMMAND"
  | .rdControl => "RD_CONTROL"
  | .wrData _ => "WR_DATA"
  | .wrStatus _ => "WR_STATUS"
  | .wrCommand _ => "WR_COMMAND"
  | .wrControl _ => "WR_CONTROL"
  | .tick => "TICK"
  | .rxqPut _ => "RXQ_PUT"
  | .rxqClear => "RXQ_CLEAR"
  | .rxService => "RX_SERVICE"
  | .rxFlush => "RX_FLUSH"
  | .nmiTimeoutChk => "NMI_TIMEOUT_CHK"
  | .txService => "TX_SERVICE"
  | .escChk => "ESC_CHK"
  | .init => "INIT"

/-- The DATA operand, where the format has one (R63). -/
def dataOperand : Instr → Option Byte
  | .wrData d => some d
  | .wrStatus d => some d
  | .wrCommand d => some d
  | .wrControl d => some d
  | .rxqPut d => some d
  | .rdData => none
  | .rdStatus => none
  | .rdCommand => none
  | .rdControl => none
  | .tick => none
  | .rxqClear => none
  | .rxService => none
  | .rxFlush => none
  | .nmiTimeoutChk => none
  | .txService => none
  | .escChk => none
  | .init => none

/-- The one agent that may issue an operation (R62, R164). -/
def agentOf : Instr → Agent
  | .rdData => .bus
  | .rdStatus => .bus
  | .rdCommand => .bus
  | .rdControl => .bus
  | .wrData _ => .bus
  | .wrStatus _ => .bus
  | .wrCommand _ => .bus
  | .wrControl _ => .bus
  | .tick => .cyc
  | .rxqPut _ => .poll
  | .rxqClear => .poll
  | .rxService => .poll
  | .rxFlush => .poll
  | .nmiTimeoutChk => .poll
  | .txService => .poll
  | .escChk => .poll
  | .init => .init

/-- The phases R164 allows an operation in. -/
def phaseAllows (ph : Phase) : Instr → Bool
  | .rdData => true
  | .rdStatus => true
  | .rdCommand => true
  | .rdControl => true
  | .wrData _ => true
  | .wrStatus _ => true
  | .wrCommand _ => true
  | .wrControl _ => true
  | .tick => true
  | .rxqPut _ => ph == .idle
  | .rxqClear => ph == .idle
  | .rxService => ph == .idle || ph == .flushing
  | .rxFlush => ph == .idle
  | .nmiTimeoutChk => true
  | .txService => ph == .idle || ph == .immWait
  | .escChk => ph == .idle
  | .init => true

/-- RX_SERVICE in phase Idle is issued only while pagePaused is 0 (R117, R164). -/
def pageAllows (ph : Phase) (paused : Bool) : Instr → Bool
  | .rdData => true
  | .rdStatus => true
  | .rdCommand => true
  | .rdControl => true
  | .wrData _ => true
  | .wrStatus _ => true
  | .wrCommand _ => true
  | .wrControl _ => true
  | .tick => true
  | .rxqPut _ => true
  | .rxqClear => true
  | .rxService => !(ph == .idle && paused)
  | .rxFlush => true
  | .nmiTimeoutChk => true
  | .txService => true
  | .escChk => true
  | .init => true

/-- The operations that use the indices of the ring or of the line buffer (R31, R40, R43). -/
def usesIndices : Instr → Bool
  | .rdData => false
  | .rdStatus => false
  | .rdCommand => false
  | .rdControl => false
  | .wrData _ => false
  | .wrStatus _ => false
  | .wrCommand _ => false
  | .wrControl _ => false
  | .tick => false
  | .rxqPut _ => true
  | .rxqClear => false
  | .rxService => true
  | .rxFlush => true
  | .nmiTimeoutChk => false
  | .txService => true
  | .escChk => false
  | .init => false

/-- The byte a bus read of a register returns: the data location reads `rxByte` (R11). -/
def State.busValue (s : State) : RegAddr → Byte
  | .data => s.rxByte
  | .status => s.status
  | .command => s.command
  | .control => s.control

/-- `data_out <- R[a]` (R9, R34). -/
def State.readOut (a : RegAddr) (s : State) : State := { s with dataOut := some (s.busValue a) }

end Sys2Proof.Machine
end

