-- ==== Sys2Proof/Machine/Ops.lean ====
section
/-! DEFINITION. The shared operations: memory, the ring and the line buffer, time, outputs, the receive interrupt's entry
and return, INIT, and the rights every operation checks first. -/

namespace Sys2Proof.Machine

/-! ### Memory -/

/-- The canonical form: strictly rising addresses. With it equal memories are equal lists. -/
abbrev Memory.wf (m : Memory) : Prop := m.Pairwise fun x y => x.1 < y.1

/-- Every listed address lies below a bound. -/
abbrev Memory.below (m : Memory) (n : Nat) : Prop := ∀ c ∈ m, c.1 < n

/-- The byte written at an address, or none where nothing has been written. -/
def Memory.read : Memory → Nat → Option Byte
  | [], _ => none
  | (k, v) :: m, a => if k = a then some v else Memory.read m a

/-- One byte written, in canonical form. -/
def Memory.write : Memory → Nat → Byte → Memory
  | [], a, b => [(a, b)]
  | (k, v) :: m, a, b =>
    if a < k then (a, b) :: (k, v) :: m
    else if k = a then (a, b) :: m
    else (k, v) :: Memory.write m a b

/-- `MemRead(RXQ, a, 1)` (R9): a slot nothing has written holds what INIT drew for it (R30, U11). -/
def State.rxqRead (s : State) (a : Nat) : Byte := (s.rxq.read a).getD (Config.drawRxq s.drawNo a)

/-- `MemRead(LINE, a, 1)` (R9): likewise (R33, U11). -/
def State.lineRead (s : State) (a : Nat) : Byte := (s.line.read a).getD (Config.drawLine s.drawNo a)

/-- `MemRead(space, a, 1)` (R9). -/
def State.memRead (s : State) : Space → Nat → Byte
  | .rxq => s.rxqRead
  | .line => s.lineRead

/-- `MemWrite(RXQ, a, 1, b)` (R9). -/
def State.rxqWrite (a : Nat) (b : Byte) (s : State) : State := { s with rxq := s.rxq.write a b }

/-- `MemWrite(LINE, a, 1, b)` (R9). -/
def State.lineWrite (a : Nat) (b : Byte) (s : State) : State := { s with line := s.line.write a b }

/-! ### The ring and the line buffer -/

/-- The number of queued bytes, a function of the indices (R31). -/
def State.used (s : State) : Nat :=
  if s.tail ≤ s.head then s.head - s.tail else s.head + s.params.rxCapacity - s.tail

/-- An index moved on by one modulo the capacity (R112). -/
def State.nextSlot (s : State) (i : Nat) : Nat := (i + 1) % s.params.rxCapacity

/-- Every index lies in its space (R35 I-b, I-c), which R43 makes the condition of a ring or line access. -/
abbrev State.indicesInRange (s : State) : Prop :=
  s.head < s.params.rxCapacity ∧ s.tail < s.params.rxCapacity ∧ s.offset < s.params.txLineMax

/-- `line[0 .. n-1]` (R135). -/
def State.linePayload (s : State) (n : Nat) : List Byte := (List.range n).map s.lineRead

/-- The case folding of the instance (R137). -/
def foldByte (p : Params) (b : Byte) : Byte := p.foldTable.get ⟨b.toNat, b.isLt⟩

/-! ### Time -/

/-- `(now - stamp) mod 2^32` (R27, R104). -/
def elapsed (now stamp : Time) : Nat := (now - stamp).toNat

/-- The elapsed time reaches the escape guard: "at least one second" (R140, R141). -/
abbrev State.guardElapsed (s : State) : Prop := Config.escGuardMs ≤ elapsed s.inputs.nowMs s.lastTxTime

/-- The interrupt has been asserted "longer than" the bound (R103). -/
abbrev State.nmiExpired (s : State) : Prop := s.params.nmiTimeoutUs < elapsed s.inputs.nowUs s.nmiAssertTime

/-! ### Outputs -/

/-- The output `nmi` (R25). -/
def State.nmi (s : State) : Bool := s.nmiAsserted

/-- `emit` (R9). -/
def State.emit (e : Event) (s : State) : State := { s with events := s.events ++ [e] }

/-- `raise`: an event on the report port, after which the operation goes on (R9, R150). -/
def State.raise (c : Condition) (s : State) : State := s.emit (.report c)

/-- `pollPhase <- p`, the block's one change of control state (R9, R29). -/
def State.enterPhase (p : Phase) (s : State) : State := { s with pollPhase := p }

/-! ### The receive interrupt -/

/-- `Ready` (R32). -/
def State.ready (s : State) : Bool :=
  s.rxIntEnabled && !s.flag .interruptPending && !s.flag .rxFull && s.countdown == 0

/-- `Deliver(b)`: the entry of the receive interrupt, the block's one exception toward the host. It loads the byte,
sets the two flags, asserts `nmi` and stamps the time in one step (R118, R159). -/
def State.deliver (b : Byte) (s : State) : State :=
  { s.setRxFlags true with rxByte := b, nmiAsserted := true, nmiAssertTime := s.inputs.nowUs }

/-- The interrupt withdrawn: the two flags and `nmi` cleared. It is what the host's data read and a timeout that fires
have in common, the return from the receive interrupt (R80, R103, R160). -/
def State.withdraw (s : State) : State := { s.setRxFlags false with nmiAsserted := false }

/-! ### Procedures several operations share -/

/-- `RxqPut(d)` (R111). -/
def State.rxqPut (d : Byte) (s : State) : State :=
  if s.params.rxCapacity - 1 ≤ s.used then s.raise .rxOverflow
  else { s.rxqWrite s.head d with head := s.nextSlot s.head }

/-- INIT's effect (R180). Every "unspecified" is drawn anew from Config's free values. -/
def State.initialise (s : State) : State :=
  { s with
    rxByte := Config.drawRxByte (s.drawNo + 1)
    txByte := Config.drawTxByte (s.drawNo + 1)
    status :=
      putFlag .interruptPending false <| putFlag .dataSetReady s.params.dsrReset <|
      putFlag .carrierDetect s.params.dcdReset <| putFlag .txEmpty true <| putFlag .rxFull false <|
      putFlag .overrunError false <| putFlag .framingError false <| putFlag .parityError false s.status
    command := s.params.cmdDefault
    control := s.params.ctrlReset
    countdown := 0
    nmiAsserted := false
    nmiAssertTime := Config.drawNmiAssertTime (s.drawNo + 1)
    rxq := []
    head := 0
    tail := 0
    line := []
    offset := 0
    plusCount := 0
    lastTxTime := s.inputs.nowMs
    pollPhase := .idle
    initialised := true
    drawNo := s.drawNo + 1 }

/-! ### Rights -/

/-- Why an operation may not be issued in a state, if it may not (R43, R66, R117, R164, R181). -/
def refusalOf (i : Instr) (s : State) : Option Refusal :=
  if s.agent ≠ agentOf i then some .wrongAgent
  else if s.initialised = false ∧ s.agent ≠ .init then some .beforeInit
  else if phaseAllows s.pollPhase i = false then some .wrongPhase
  else if pageAllows s.pollPhase s.inputs.pagePaused i = false then some .pagePaused
  else if usesIndices i = true ∧ ¬ s.indicesInRange then some .indexOutOfRange
  else none

/-- An operation issued: refused without a state change if it may not be, else carried out whole (R6, R164). -/
def issue (i : Instr) (effect : State → State) (s : State) : Host.Outcome State Fault Refusal :=
  match refusalOf i s with
  | some r => .refused r
  | none => .next (effect s)

/-! ### The next operation -/

/-- The operation `o` begins: its agent and inputs are sampled, no byte is on `data_out` yet, and `rest` is still to
come (R6, R9, R34). -/
def State.begin (o : Issue) (rest : List Issue) (s : State) : State :=
  { s with agent := o.agent, inputs := o.inputs, dataOut := none, schedule := rest }

/-- The next operation of the total order, decoded, and the state it runs in (R46). -/
def fetch (s : State) : Option (Except DecodeError Instr × State) :=
  match s.schedule with
  | [] => none
  | o :: rest => some (decode o.word, s.begin o rest)

/-- A word issued by the agent it belongs to (R62); a reserved word belongs to none and stands under BUS. -/
def issueOfWord (inp : Inputs) (w : Desc) : Issue :=
  { agent :=
      match decode w with
      | .ok i => agentOf i
      | .error _ => .bus
    word := w
    inputs := inp }

end Sys2Proof.Machine
end

