-- ==== Sys2Proof/Machine/Bus.lean ====
section
/-! DEFINITION. The eight operations of the BUS agent (R80 to R88). -/

namespace Sys2Proof.Machine

/-- RD_DATA (R80). -/
def execRdData (s : State) : Host.Outcome State Fault Refusal :=
  issue .rdData (fun s => { (s.readOut .data).withdraw with countdown := s.params.rxGapCycles }) s

/-- RD_STATUS (R81). -/
def execRdStatus (s : State) : Host.Outcome State Fault Refusal :=
  issue .rdStatus (State.readOut .status) s

/-- RD_COMMAND (R82). -/
def execRdCommand (s : State) : Host.Outcome State Fault Refusal :=
  issue .rdCommand (State.readOut .command) s

/-- RD_CONTROL (R83). -/
def execRdControl (s : State) : Host.Outcome State Fault Refusal :=
  issue .rdControl (State.readOut .control) s

/-- WR_DATA (R84). -/
def execWrData (d : Byte) (s : State) : Host.Outcome State Fault Refusal :=
  issue (.wrData d) (fun s => { s.setFlag .txEmpty false with txByte := d }) s

/-- WR_STATUS, the programmed reset; the byte is ignored (R85). -/
def execWrStatus (d : Byte) (s : State) : Host.Outcome State Fault Refusal :=
  issue (.wrStatus d) (fun s => { s with command := s.params.cmdDefault }) s

/-- WR_COMMAND (R86). -/
def execWrCommand (d : Byte) (s : State) : Host.Outcome State Fault Refusal :=
  issue (.wrCommand d) (fun s => { s with command := d }) s

/-- WR_CONTROL (R87). -/
def execWrControl (d : Byte) (s : State) : Host.Outcome State Fault Refusal :=
  issue (.wrControl d) (fun s => { s with control := d }) s

end Sys2Proof.Machine
end

