-- ==== Sys2Proof/Machine/Init.lean ====
section
/-! DEFINITION. INIT, the block's one full reset (R180 to R183). -/

namespace Sys2Proof.Machine

/-- INIT (R180). -/
def execInit (s : State) : Host.Outcome State Fault Refusal := issue .init State.initialise s

end Sys2Proof.Machine
end

