-- ==== Sys2Proof/Machine/RxQueue.lean ====
section
/-! DEFINITION. The Rx queue: RXQ_PUT, RXQ_CLEAR, RX_SERVICE, RX_FLUSH (R110 to R122). -/

namespace Sys2Proof.Machine

/-- The read index moved on (R112, R115). -/
def State.moveTail (s : State) : State := { s with tail := s.nextSlot s.tail }

/-- One byte taken from the ring, and delivered unless it is zero (R115, R116). -/
def State.dequeue (s : State) : State :=
  if s.rxqRead s.tail = 0 then s.moveTail else s.moveTail.deliver (s.rxqRead s.tail)

/-- The phase Flushing ends when the queue is empty (R115 last line, R121). -/
def State.endFlush (s : State) : State :=
  if s.pollPhase = .flushing ∧ s.used = 0 then s.enterPhase .idle else s

/-- The ready-check-and-deliver (R115). -/
def State.serviceRx (s : State) : State :=
  if 0 < s.used ∧ s.ready = true then s.dequeue.endFlush else s.endFlush

/-- The start of a flush (R120). -/
def State.startFlush (s : State) : State :=
  if 0 < s.used then s.enterPhase .flushing else s

/-- RXQ_PUT (R111). -/
def execRxqPut (d : Byte) (s : State) : Host.Outcome State Fault Refusal := issue (.rxqPut d) (State.rxqPut d) s

/-- RXQ_CLEAR (R113). -/
def execRxqClear (s : State) : Host.Outcome State Fault Refusal :=
  issue .rxqClear (fun s => { s with head := 0, tail := 0 }) s

/-- RX_SERVICE (R115). -/
def execRxService (s : State) : Host.Outcome State Fault Refusal := issue .rxService State.serviceRx s

/-- RX_FLUSH (R120). -/
def execRxFlush (s : State) : Host.Outcome State Fault Refusal := issue .rxFlush State.startFlush s

end Sys2Proof.Machine
end

