-- ==== Sys2Proof/Machine/Timer.lean ====
section
/-! DEFINITION. The cycle countdown and the interrupt-assertion timeout (R100 to R105). -/

namespace Sys2Proof.Machine

/-- The decrement that saturates at zero (R100, R101). -/
def State.countDown (s : State) : State :=
  if 0 < s.countdown then { s with countdown := s.countdown - 1 } else s

/-- The elapsed-time check (R103). -/
def State.checkTimeout (s : State) : State :=
  if s.flag .interruptPending = true ∧ s.nmiExpired then s.withdraw.raise .nmiTimeout else s

/-- TICK (R100). -/
def execTick (s : State) : Host.Outcome State Fault Refusal := issue .tick State.countDown s

/-- NMI_TIMEOUT_CHK (R103). -/
def execNmiTimeoutChk (s : State) : Host.Outcome State Fault Refusal := issue .nmiTimeoutChk State.checkTimeout s

end Sys2Proof.Machine
end

