-- ==== Sys2Proof/Machine/TxMux.lean ====
section
/-! DEFINITION. The Tx path and the command/data multiplexer: TX_SERVICE and ESC_CHK (R130 to R142). -/

namespace Sys2Proof.Machine

/-- What every branch that consumes the byte ends with (R131, R135). -/
def State.consumed (s : State) : State :=
  { s.setFlag .txEmpty true with lastTxTime := s.inputs.nowMs, pollPhase := .idle }

/-- The count of '+' after the forwarded byte b; it reads `lastTxTime` before the relay stamps it (R140). -/
def State.plusCountAfter (b : Byte) (s : State) : Nat :=
  if b = s.params.chPlus then
    if s.plusCount ≠ 0 ∨ s.guardElapsed then
      if s.plusCount = Config.escPlusCount then 0 else s.plusCount + 1
    else s.plusCount
  else 0

/-- `EscCount(b)` (R140). -/
def State.escCount (b : Byte) (s : State) : State := { s with plusCount := s.plusCountAfter b }

/-- `OnlineRelay(b)`: the data position (R131). -/
def State.onlineRelay (b : Byte) (s : State) : State :=
  ((s.emit (.transportWrite b)).escCount b).consumed

/-- The folded byte erases the last character (R135). -/
def erases (p : Params) (c : Byte) : Bool := c == p.chBs || c == p.chDel

/-- The first half of `Accumulate`: the folded byte appended, or the last one erased (R135). -/
def State.typeChar (c : Byte) (s : State) : State :=
  if erases s.params c then (if 0 < s.offset then { s with offset := s.offset - 1 } else s)
  else { s.lineWrite s.offset c with offset := s.offset + 1 }

/-- Where a closed line goes (R135, R136). -/
def lineDest : Mode → Dest
  | .browser => .browser
  | .offline => .at

/-- The report of a line closed by its length and not by a carriage return (R135, R153). -/
def State.reportLength (c : Byte) (s : State) : State := if c = s.params.chCr then s else s.raise .lineMaxLen

/-- `line[0 .. n-1]` handed over, and the buffer empty again (R135, R136). -/
def State.dispatchLine (n : Nat) (s : State) : State :=
  { s.emit (.lineDispatch (lineDest s.inputs.mode) (s.linePayload n)) with offset := 0 }

/-- The line closed: the last stored byte gives way to the terminator, and what stands before it is dispatched (R135). -/
def State.closeLine (c : Byte) (s : State) : State :=
  ((s.lineWrite (s.offset - 1) 0).reportLength c).dispatchLine (s.offset - 1)

/-- The second half of `Accumulate`: the line closes at a carriage return or at the full buffer (R135). -/
def State.closeIfDone (c : Byte) (s : State) : State :=
  if c = s.params.chCr ∨ s.offset = s.params.txLineMax then s.closeLine c else s

/-- `plusCount <- 0`: a byte consumed in command position resets the count (R135, R140). -/
def State.clearPlus (s : State) : State := { s with plusCount := 0 }

/-- `Accumulate(b)` (R135); the tests are on the folded byte (D24). -/
def State.accumulate (b : Byte) (s : State) : State :=
  ((s.typeChar (foldByte s.params b)).closeIfDone (foldByte s.params b)).clearPlus.consumed

/-- `OfflineEcho(b)`: the command position of the AT processor (R133). -/
def State.offlineEcho (b : Byte) (s : State) : State := (s.rxqPut b).accumulate b

/-- `BrowserEcho(b)`: the command position of the browser, held until the host is ready (R134). -/
def State.browserEcho (b : Byte) (s : State) : State :=
  if s.ready then (s.deliver b).accumulate b else s.enterPhase .immWait

/-- The multiplexer's routing of the byte b (R130, R132). -/
def State.routeTx (b : Byte) (s : State) : State :=
  if s.inputs.connected = true ∧ s.inputs.mode = .offline then s.onlineRelay b
  else if s.inputs.mode = .browser then s.browserEcho b
  else s.offlineEcho b

/-- The byte the host wrote, if any, consumed (R130). -/
def State.serviceTx (s : State) : State := if s.flag .txEmpty then s else s.routeTx s.txByte

/-- The silence after the third '+' (R141). -/
def State.checkEscape (s : State) : State :=
  if s.plusCount = Config.escPlusCount ∧ s.guardElapsed then { s.emit .hangupReq with plusCount := 0 } else s

/-- TX_SERVICE (R130). -/
def execTxService (s : State) : Host.Outcome State Fault Refusal := issue .txService State.serviceTx s

/-- ESC_CHK (R141). -/
def execEscChk (s : State) : Host.Outcome State Fault Refusal := issue .escChk State.checkEscape s

end Sys2Proof.Machine
end

