-- ==== Sys2Proof/Machine/Dispatch.lean ====
section
/-! DEFINITION. One arm for each operation of R62. -/

namespace Sys2Proof.Machine

def exec (i : Instr) (s : State) : Host.Outcome State Fault Refusal :=
  match i with
  | .rdData => Sys2Proof.Machine.execRdData s
  | .rdStatus => Sys2Proof.Machine.execRdStatus s
  | .rdCommand => Sys2Proof.Machine.execRdCommand s
  | .rdControl => Sys2Proof.Machine.execRdControl s
  | .wrData d => Sys2Proof.Machine.execWrData d s
  | .wrStatus d => Sys2Proof.Machine.execWrStatus d s
  | .wrCommand d => Sys2Proof.Machine.execWrCommand d s
  | .wrControl d => Sys2Proof.Machine.execWrControl d s
  | .tick => Sys2Proof.Machine.execTick s
  | .rxqPut d => Sys2Proof.Machine.execRxqPut d s
  | .rxqClear => Sys2Proof.Machine.execRxqClear s
  | .rxService => Sys2Proof.Machine.execRxService s
  | .rxFlush => Sys2Proof.Machine.execRxFlush s
  | .nmiTimeoutChk => Sys2Proof.Machine.execNmiTimeoutChk s
  | .txService => Sys2Proof.Machine.execTxService s
  | .escChk => Sys2Proof.Machine.execEscChk s
  | .init => Sys2Proof.Machine.execInit s

end Sys2Proof.Machine
end

