-- ==== Sys2Proof/Machine/Step.lean ====
section
/-! DEFINITION. One step: the next operation of the total order runs to completion (R6, R46). -/

namespace Sys2Proof.Machine

/-- The next operation of the schedule, decoded and executed. With none issued the block waits as it is (R180: "it
starts by waiting for operations"); a reserved descriptor is refused (R65). -/
def step (s : State) : Host.Outcome State Fault Refusal :=
  match fetch s with
  | none => .next s
  | some (.ok i, s') => exec i s'
  | some (.error e, _) => .refused (.reservedDescriptor e)

/-- The state in which the word w is the next operation, issued by its own agent under the inputs last sampled.
The block loads no program (R29): an operation runs because an agent issues it. -/
def State.withFetchWord (s : State) (nbits w : Nat) : State :=
  { s with schedule := issueOfWord s.inputs (tableWord nbits w) :: s.schedule }

end Sys2Proof.Machine
end

