-- ==== Sys2Proof/Machine/Pseudo.lean ====
section
/-! DEFINITION. The pseudo-operations of rule R72, as the operations they expand to, and the trace syntax of rule R70.
None has a descriptor of its own, so none is a constructor of Instr. The inputs are the same for every operation of an
expansion; BUS and CYC operations may be put between the rounds of a wait. -/

namespace Sys2Proof.Machine

/-- An operation issued by its own agent (R62). -/
def issueOf (inp : Inputs) (i : Instr) : Issue := { agent := agentOf i, word := encode i, inputs := inp }

/-- `TICKS n` (R72). -/
def pseudoTicks (inp : Inputs) (n : Nat) : List Issue := List.replicate n (issueOf inp .tick)

/-- `PUTS s` (R72). -/
def pseudoPuts (inp : Inputs) (bytes : List Byte) : List Issue := bytes.map fun b => issueOf inp (.rxqPut b)

/-- One round of a wait: the check of R105, then the waiting operation again. -/
def waitRound (inp : Inputs) (i : Instr) : List Issue := [issueOf inp .nmiTimeoutChk, issueOf inp i]

/-- That many rounds of a wait. -/
def waitRounds (inp : Inputs) (i : Instr) (n : Nat) : List Issue := (List.replicate n (waitRound inp i)).flatten

/-- `POLL` (R72) when a browser echo is held for that many retries, none in the plain iteration. -/
def pseudoPoll (inp : Inputs) (retries : Nat) : List Issue :=
  issueOf inp .txService :: waitRounds inp .txService retries ++
    [issueOf inp .escChk, issueOf inp .nmiTimeoutChk] ++
    (if inp.pagePaused then [] else [issueOf inp .rxService])

/-- `FLUSH` (R72) that takes that many rounds. -/
def pseudoFlush (inp : Inputs) (rounds : Nat) : List Issue :=
  issueOf inp .rxFlush :: waitRounds inp .rxService rounds

/-- `HOST_SEND d` (R72). -/
def pseudoHostSend (inp : Inputs) (d : Byte) : List Issue := [issueOf inp .rdStatus, issueOf inp (.wrData d)]

/-- `HOST_RECV` (R72). -/
def pseudoHostRecv (inp : Inputs) : List Issue := [issueOf inp .rdData]

/-- A hexadecimal digit. -/
def hexDigit (n : BitVec 4) : String := (String.singleton (Nat.digitChar n.toNat)).toUpper

/-- A byte in the notation of R8. -/
def hexByte (b : Byte) : String := "0x" ++ hexDigit (b.extractLsb' 4 4) ++ hexDigit (b.extractLsb' 0 4)

/-- An agent's name in a trace (R70). -/
def agentName : Agent → String
  | .bus => "BUS"
  | .cyc => "CYC"
  | .poll => "POLL"
  | .init => "INIT"

/-- An operation in the trace syntax of R70: agent, mnemonic, operand. -/
def traceOf (i : Instr) : String :=
  agentName (agentOf i) ++ ": " ++ mnemonicOf i ++
    match dataOperand i with
    | some d => " " ++ hexByte d
    | none => ""

/-- The names of a status byte's set fields, highest first (R71). -/
def statusNames (st : Byte) : List String :=
  [(Flag.interruptPending, "interruptPending"), (Flag.dataSetReady, "dataSetReady"),
    (Flag.carrierDetect, "carrierDetect"), (Flag.txEmpty, "txEmpty"), (Flag.rxFull, "rxFull"),
    (Flag.overrunError, "overrunError"), (Flag.framingError, "framingError"),
    (Flag.parityError, "parityError")].filterMap fun p => if getFlag p.1 st then some p.2 else none

end Sys2Proof.Machine
end

