-- ==== Sys2Proof/Safety.lean ====
section
/-! DEFINITION. What a good state is, what a run issues, and what a conforming environment does: the terms the statements
are written in. -/

namespace Sys2Proof.Machine

/-! ### The invariants of rule R35 -/

/-- I-a: the two receive flags and the interrupt assertion agree (R16). -/
abbrev State.FlagsAgree (s : State) : Prop :=
  s.flag .rxFull = s.flag .interruptPending ∧ s.flag .interruptPending = s.nmiAsserted

/-- I-b: the ring's indices are in range and one slot is free (R31). -/
abbrev State.RingOk (s : State) : Prop :=
  s.head < s.params.rxCapacity ∧ s.tail < s.params.rxCapacity ∧ s.used ≤ s.params.rxCapacity - 1

/-- I-f: the error flags are 0 and the modem flags hold their reset values (R18, R19). -/
abbrev State.QuietFlags (s : State) : Prop :=
  s.flag .overrunError = false ∧ s.flag .framingError = false ∧ s.flag .parityError = false ∧
    s.flag .dataSetReady = s.params.dsrReset ∧ s.flag .carrierDetect = s.params.dcdReset

/-- The clauses I-a to I-g of R35. -/
abbrev State.Consistent (s : State) : Prop :=
  s.FlagsAgree ∧ s.RingOk ∧ s.offset ≤ s.params.txLineMax - 1 ∧ s.countdown ≤ s.params.rxGapCycles ∧
    s.plusCount ≤ 3 ∧ s.QuietFlags ∧ (s.pollPhase = .flushing → 0 < s.used)

/-- The two memories are in canonical form and inside their spaces (R40). -/
abbrev State.MemoryOk (s : State) : Prop :=
  s.rxq.wf ∧ s.rxq.below s.params.rxCapacity ∧ s.line.wf ∧ s.line.below s.params.txLineMax

/-- The slot of the k-th queued byte, oldest first (R30). -/
def State.slot (s : State) (k : Nat) : Nat := (s.tail + k) % s.params.rxCapacity

/-- Every queued slot and every accumulated character has been written since INIT (R30, R33). -/
abbrev State.Written (s : State) : Prop :=
  (∀ k < s.used, (s.rxq.read (s.slot k)).isSome = true) ∧ (∀ a < s.offset, (s.line.read a).isSome = true)

/-- A held browser echo still has its byte: txEmpty is 0 for the whole of phase ImmWait (R138). -/
abbrev State.HeldByteKept (s : State) : Prop := s.pollPhase = .immWait → s.flag .txEmpty = false

/-- The queued bytes, oldest first (R30). -/
def State.queued (s : State) : List Byte := (List.range s.used).map fun k => s.rxqRead (s.slot k)

/-- A byte queued, unless all but one slot are taken (R111). -/
def enqueue (capacity : Nat) (d : Byte) (q : List Byte) : List Byte := if capacity - 1 ≤ q.length then q else q ++ [d]

/-- What each operation does to the list of queued bytes, in the terms of R111, R113, R115, R133 and R180. -/
def queueAfter (i : Instr) (s : State) (q : List Byte) : List Byte :=
  match i with
  | .rdData => q
  | .rdStatus => q
  | .rdCommand => q
  | .rdControl => q
  | .wrData _ => q
  | .wrStatus _ => q
  | .wrCommand _ => q
  | .wrControl _ => q
  | .tick => q
  | .rxqPut d => enqueue s.params.rxCapacity d q
  | .rxqClear => []
  | .rxService => if s.ready then q.tail else q
  | .rxFlush => q
  | .nmiTimeoutChk => q
  | .txService =>
    if s.flag .txEmpty = false ∧ s.inputs.mode = .offline ∧ s.inputs.connected = false then
      enqueue s.params.rxCapacity s.txByte q
    else q
  | .escChk => q
  | .init => []

/-! ### Who may issue -/

/-- A bus operation may run (R164). -/
abbrev State.OnBus (s : State) : Prop := s.initialised = true ∧ s.agent = .bus

/-- A cycle operation may run (R164). -/
abbrev State.OnCyc (s : State) : Prop := s.initialised = true ∧ s.agent = .cyc

/-- A polling operation may run, as far as its agent goes (R164). -/
abbrev State.OnPoll (s : State) : Prop := s.initialised = true ∧ s.agent = .poll

/-- TX_SERVICE may run (R43, R164). -/
abbrev State.MayServiceTx (s : State) : Prop := s.OnPoll ∧ s.pollPhase ≠ .flushing ∧ s.indicesInRange

/-- RX_SERVICE may run (R43, R117, R164). -/
abbrev State.MayServiceRx (s : State) : Prop :=
  s.OnPoll ∧ (s.pollPhase = .idle ∧ s.inputs.pagePaused = false ∨ s.pollPhase = .flushing) ∧ s.indicesInRange

/-- A byte written by the host is consumed in the data position (R132). -/
abbrev State.DataPosition (s : State) : Prop := s.inputs.mode = .offline ∧ s.inputs.connected = true

/-- A byte written by the host is consumed at once in a command position: offline, or browsing with the host ready
(R132, R134). -/
abbrev State.CommandPosition (s : State) : Prop :=
  s.inputs.mode = .offline ∧ s.inputs.connected = false ∨ s.inputs.mode = .browser ∧ s.ready = true

/-- The report of an echo that finds the queue full (R133). -/
def State.echoReports (s : State) : List Event :=
  if s.inputs.mode = .offline ∧ s.used = s.params.rxCapacity - 1 then [.report .rxOverflow] else []

/-! ### What a run issues -/

/-- The words of the next k operations. -/
def State.wordsOf (s : State) (k : Nat) : List Desc := (s.schedule.take k).map Issue.word

/-- How many of the next k operations are the word w. -/
def State.countOf (s : State) (k : Nat) (w : Desc) : Nat := (s.wordsOf k).count w

/-! ### A conforming environment

What the spec asks of the agents beyond the table of R164. The machine refuses none of it, so a claim that needs it takes
`conforms` as a hypothesis. R27's promise about the time inputs adds nothing to it: every sequence of 32-bit samples is
the image of a rising one. -/

/-- What a watcher of a schedule remembers. -/
structure Watch where
  /-- An NMI_TIMEOUT_CHK has come since the last attempt of a waiting operation (R105). -/
  checked : Bool
  /-- The host cycle that the last TICK belongs to has had no bus operation yet (R48). -/
  room : Bool
  /-- A bus operation has come whose cycle's TICK has not (R48). -/
  early : Bool
  deriving DecidableEq, Repr

/-- The watcher sees a bus operation: at most one in each host cycle, before or after its TICK (R48). -/
def Watch.onBus (w : Watch) : Option Watch :=
  if w.room then some { w with room := false }
  else if w.early then none
  else some { w with early := true }

/-- The watcher sees an attempt of a waiting operation: inside the wait a check must have come before it (R105). -/
def Watch.onAttempt (w : Watch) (waiting : Bool) : Option Watch :=
  if waiting && !w.checked then none else some { w with checked := false }

/-- The watcher sees an operation that is about to run in a state, and says whether it conforms. -/
def Watch.see (w : Watch) (s : State) (i : Instr) : Option Watch :=
  match i with
  | .rdData => w.onBus
  | .rdStatus => w.onBus
  | .rdCommand => w.onBus
  | .rdControl => w.onBus
  | .wrData _ => w.onBus
  | .wrStatus _ => w.onBus
  | .wrCommand _ => w.onBus
  | .wrControl _ => w.onBus
  | .tick => some { w with room := !w.early, early := false }
  | .rxqPut _ => some w
  | .rxqClear => some w
  | .rxService => w.onAttempt (s.pollPhase == .flushing)
  | .rxFlush => some { w with checked := true }
  | .nmiTimeoutChk => some { w with checked := true }
  | .txService => w.onAttempt (s.pollPhase == .immWait)
  | .escChk => some w
  | .init => some { w with checked := true }

/-- The next k operations of a run keep to R48, R105 and to the promise that `mode` does not change while a browser echo
is held (R130, U16). -/
def conforms : Nat → Watch → State → Bool
  | 0, _, _ => true
  | k + 1, w, s =>
    match fetch s with
    | none => true
    | some (.error _, _) => false
    | some (.ok i, s') =>
      (!(s.pollPhase == .immWait) || s'.inputs.mode == s.inputs.mode) &&
        match w.see s' i, exec i s' with
        | some w', .next t => conforms k w' t
        | some _, .fault _ => false
        | some _, .refused _ => false
        | none, .next _ => false
        | none, .fault _ => false
        | none, .refused _ => false

end Sys2Proof.Machine
end

