-- ==== Sys2Proof/Certificates/Slice0/Obligations.lean ====
section
/-! DEFINITION. The statements for the provers. A machine is one instance of the block: its parameters stand in the state,
so a statement about every state is about every instance; nothing here rests on the value of a parameter, of a free value
or of the open instance of `State.reset`. -/

open Sys2Proof Sys2Proof.Machine

/-! ### Bus operations -/

/-- R80. All five effects, whatever was pending; bits 7 and 3 of the status byte are interruptPending and rxFull. -/
def Obligations.RdDataReturnsByteAndArmsGap : Prop :=
  ∀ s : State, s.OnBus →
    exec .rdData s = .next
      { s with
        dataOut := some s.rxByte
        countdown := s.params.rxGapCycles
        nmiAsserted := false
        status := s.status &&& 0x77#8 }

/-- R81, R82, R83. -/
def Obligations.OtherReadsReturnStoredByteOnly : Prop :=
  ∀ s : State, s.OnBus →
    exec .rdStatus s = .next { s with dataOut := some s.status } ∧
    exec .rdCommand s = .next { s with dataOut := some s.command } ∧
    exec .rdControl s = .next { s with dataOut := some s.control }

/-- R84. Bit 4 of the status byte is txEmpty. -/
def Obligations.WrDataLatchesByteAndClearsTxEmpty : Prop :=
  ∀ (d : Byte) (s : State), s.OnBus →
    exec (.wrData d) s = .next { s with txByte := d, status := s.status &&& 0xEF#8 }

/-- R85. -/
def Obligations.WrStatusResetsCommandOnly : Prop :=
  ∀ (d : Byte) (s : State), s.OnBus → exec (.wrStatus d) s = .next { s with command := s.params.cmdDefault }

/-- R86, R87. -/
def Obligations.WrCommandAndWrControlStoreTheByte : Prop :=
  ∀ (d : Byte) (s : State), s.OnBus →
    exec (.wrCommand d) s = .next { s with command := d } ∧
    exec (.wrControl d) s = .next { s with control := d }

/-- R88: a bus operation runs in every phase, and writes only the elements named here, the read result `data_out` and, of
the status byte, bits 7, 4 and 3. -/
def Obligations.BusOperationsTouchOnlyTheRegisterFile : Prop :=
  ∀ (i : Instr) (s : State), agentOf i = .bus → s.OnBus →
    ∃ t, exec i s = .next t ∧
      t = { s with
            txByte := t.txByte, status := t.status, command := t.command, control := t.control
            countdown := t.countdown, nmiAsserted := t.nmiAsserted, dataOut := t.dataOut } ∧
      t.status &&& 0x67#8 = s.status &&& 0x67#8

/-- R45: a second data read returns the same byte and leaves the same state. -/
def Obligations.SecondDataReadRepeatsTheFirst : Prop :=
  ∀ s t : State, exec .rdData s = .next t → exec .rdData t = .next t ∧ t.dataOut = some s.rxByte

/-! ### Timers -/

/-- R100: the decrement saturates at zero. -/
def Obligations.TickLowersTheCountdownByOne : Prop :=
  ∀ s : State, s.OnCyc →
    (0 < s.countdown → exec .tick s = .next { s with countdown := s.countdown - 1 }) ∧
    (s.countdown = 0 → exec .tick s = .next s)

/-- R103: strictly longer than the bound, by the modular difference; no effect otherwise. -/
def Obligations.TimeoutWithdrawsAnUnservicedInterrupt : Prop :=
  ∀ s : State, s.OnPoll →
    (s.status.getLsbD 7 = true ∧ s.params.nmiTimeoutUs < (s.inputs.nowUs - s.nmiAssertTime).toNat →
      exec .nmiTimeoutChk s = .next
        { s with
          status := s.status &&& 0x77#8
          nmiAsserted := false
          events := s.events ++ [.report .nmiTimeout] }) ∧
    (¬ (s.status.getLsbD 7 = true ∧ s.params.nmiTimeoutUs < (s.inputs.nowUs - s.nmiAssertTime).toNat) →
      exec .nmiTimeoutChk s = .next s)

/-! ### The Rx queue -/

/-- R111: the byte is stored at head, or dropped with a report when all but one slot are taken. -/
def Obligations.RxqPutStoresAtHeadOrReportsOverflow : Prop :=
  ∀ (d : Byte) (s : State), s.OnPoll → s.pollPhase = .idle → s.indicesInRange →
    (s.params.rxCapacity - 1 ≤ s.used →
      exec (.rxqPut d) s = .next { s with events := s.events ++ [.report .rxOverflow] }) ∧
    (s.used < s.params.rxCapacity - 1 →
      ∃ t, exec (.rxqPut d) s = .next t ∧
        t = { s with rxq := t.rxq, head := (s.head + 1) % s.params.rxCapacity } ∧
        t.rxqRead s.head = d ∧ ∀ a, a ≠ s.head → t.rxqRead a = s.rxqRead a)

/-- R113: both indices to 0, nothing else. -/
def Obligations.RxqClearResetsTheIndices : Prop :=
  ∀ s : State, s.OnPoll → s.pollPhase = .idle →
    exec .rxqClear s = .next { s with head := 0, tail := 0 } ∧
    ({ s with head := 0, tail := 0 } : State).used = 0

/-- R115, R116, R118: one byte dequeued and delivered when the queue is not empty and the block is ready, a zero byte
dequeued only, and otherwise nothing; the flush ends when the queue is empty. -/
def Obligations.RxServiceDeliversOneByteWhenReady : Prop :=
  ∀ s : State, s.MayServiceRx →
    (0 < s.used → s.ready = true → s.rxqRead s.tail ≠ 0 →
      exec .rxService s = .next
        { s with
          tail := (s.tail + 1) % s.params.rxCapacity
          rxByte := s.rxqRead s.tail
          status := s.status ||| 0x88#8
          nmiAsserted := true
          nmiAssertTime := s.inputs.nowUs
          pollPhase := if s.used = 1 then .idle else s.pollPhase }) ∧
    (0 < s.used → s.ready = true → s.rxqRead s.tail = 0 →
      exec .rxService s = .next
        { s with
          tail := (s.tail + 1) % s.params.rxCapacity
          pollPhase := if s.used = 1 then .idle else s.pollPhase }) ∧
    (¬ (0 < s.used ∧ s.ready = true) →
      exec .rxService s = .next { s with pollPhase := if s.used = 0 then .idle else s.pollPhase })

/-- R120. -/
def Obligations.RxFlushStartsOnlyWithBytesQueued : Prop :=
  ∀ s : State, s.OnPoll → s.pollPhase = .idle → s.indicesInRange →
    (0 < s.used → exec .rxFlush s = .next { s with pollPhase := .flushing }) ∧
    (s.used = 0 → exec .rxFlush s = .next s)

/-- R31: the free slot tells a full queue from an empty one. -/
def Obligations.UsedCountsBelowCapacity : Prop :=
  ∀ s : State, s.head < s.params.rxCapacity → s.tail < s.params.rxCapacity →
    s.used = (if s.head ≥ s.tail then s.head - s.tail else s.head + s.params.rxCapacity - s.tail) ∧
    s.used ≤ s.params.rxCapacity - 1 ∧ (s.used = 0 ↔ s.head = s.tail) ∧
    (s.used = s.params.rxCapacity - 1 ↔ (s.head + 1) % s.params.rxCapacity = s.tail)

/-- R114: the ring is a first-in first-out list of at most capacity - 1 bytes, for every operation, and the byte that a
dequeue hands over is the oldest: RX_SERVICE delivers the first of the list, or drops it undelivered when it is zero. The
indices stay in range, so the statement chains over sequences of operations. -/
def Obligations.RingIsAFirstInFirstOutQueue : Prop :=
  ∀ (i : Instr) (s t : State), s.indicesInRange → exec i s = .next t →
    t.queued = queueAfter i s s.queued ∧ t.queued.length = t.used ∧ t.used ≤ t.params.rxCapacity - 1 ∧
      t.indicesInRange ∧ ∀ (b : Byte) (q : List Byte), i = .rxService → s.ready = true → s.queued = b :: q →
        t.queued = q ∧ (b ≠ 0 → t.rxByte = b ∧ t.flag .rxFull = true) ∧
          (b = 0 → t.rxByte = s.rxByte ∧ t.flag .rxFull = false)

/-- R32: what `Ready` is, by the bits of the registers. -/
def Obligations.ReadyIsTheFourConditions : Prop :=
  ∀ s : State, s.ready = true ↔
    s.command.getLsbD 1 = false ∧ s.status.getLsbD 7 = false ∧ s.status.getLsbD 3 = false ∧ s.countdown = 0

/-! ### The Tx path and the multiplexer -/

/-- R130 case (a): with txEmpty = 1 nothing changes. -/
def Obligations.TxServiceWithNothingWrittenDoesNothing : Prop :=
  ∀ s : State, s.MayServiceTx → s.status.getLsbD 4 = true → exec .txService s = .next s

/-- R131, R140: the data position forwards the byte, counts '+', and frees the Tx register. -/
def Obligations.OnlineRelayForwardsTheByte : Prop :=
  ∀ s : State, s.MayServiceTx → s.status.getLsbD 4 = false → s.DataPosition →
    exec .txService s = .next
      { s with
        events := s.events ++ [.transportWrite s.txByte]
        plusCount :=
          if s.txByte = s.params.chPlus then
            if s.plusCount ≠ 0 ∨ 1000 ≤ (s.inputs.nowMs - s.lastTxTime).toNat then
              if s.plusCount = 3 then 0 else s.plusCount + 1
            else 0
          else 0
        status := s.status ||| 0x10#8
        lastTxTime := s.inputs.nowMs
        pollPhase := .idle }

/-- R133: the offline echo goes through the Rx queue, unfolded; a full queue drops it with a report, and the byte is
accumulated all the same. The receive side is otherwise as before. -/
def Obligations.OfflineEchoGoesThroughTheQueue : Prop :=
  ∀ s : State, s.MayServiceTx → s.status.getLsbD 4 = false → s.inputs.mode = .offline → s.inputs.connected = false →
    ∃ t, exec .txService s = .next t ∧
      t = { s with
            rxq := t.rxq, head := t.head, line := t.line, offset := t.offset, events := t.events
            plusCount := 0, lastTxTime := s.inputs.nowMs, pollPhase := .idle, status := s.status ||| 0x10#8 } ∧
      (s.used = s.params.rxCapacity - 1 →
        t.head = s.head ∧ (∀ a, t.rxqRead a = s.rxqRead a) ∧
          ∃ l, t.events = s.events ++ .report .rxOverflow :: l) ∧
      (s.used < s.params.rxCapacity - 1 →
        t.head = (s.head + 1) % s.params.rxCapacity ∧ t.rxqRead s.head = s.txByte ∧
          ∀ a, a ≠ s.head → t.rxqRead a = s.rxqRead a)

/-- R134: the browser echo is delivered at once past the queue when the host is ready, whatever the byte, and otherwise is
held without any other change. -/
def Obligations.BrowserEchoIsDeliveredOrHeld : Prop :=
  ∀ s : State, s.MayServiceTx → s.status.getLsbD 4 = false → s.inputs.mode = .browser →
    (s.ready = true →
      ∃ t, exec .txService s = .next t ∧
        t = { s with
              rxByte := s.txByte, nmiAsserted := true, nmiAssertTime := s.inputs.nowUs
              status := s.status ||| 0x98#8, line := t.line, offset := t.offset, events := t.events
              plusCount := 0, lastTxTime := s.inputs.nowMs, pollPhase := .idle }) ∧
    (s.ready = false → exec .txService s = .next { s with pollPhase := .immWait })

/-- R135, an ordinary character: appended to the line after folding, at `offset`. -/
def Obligations.LineAppendsAFoldedCharacter : Prop :=
  ∀ s : State, s.MayServiceTx → s.status.getLsbD 4 = false → s.CommandPosition →
    foldByte s.params s.txByte ≠ s.params.chBs → foldByte s.params s.txByte ≠ s.params.chDel →
    foldByte s.params s.txByte ≠ s.params.chCr → s.offset + 1 < s.params.txLineMax →
    ∃ t, exec .txService s = .next t ∧ t.offset = s.offset + 1 ∧
      t.lineRead s.offset = foldByte s.params s.txByte ∧ (∀ a, a ≠ s.offset → t.lineRead a = s.lineRead a) ∧
      t.events = s.events ++ s.echoReports

/-- R135, backspace or delete: the last character goes, and at offset 0 nothing does; no byte of the line is stored. -/
def Obligations.LineErasesTheLastCharacter : Prop :=
  ∀ s : State, s.MayServiceTx → s.status.getLsbD 4 = false → s.CommandPosition → s.params.wf →
    foldByte s.params s.txByte = s.params.chBs ∨ foldByte s.params s.txByte = s.params.chDel →
    ∃ t, exec .txService s = .next t ∧ t.offset = s.offset - 1 ∧ (∀ a, t.lineRead a = s.lineRead a) ∧
      t.events = s.events ++ s.echoReports

/-- R135, carriage return: the line typed so far is dispatched, its terminator is stored at `offset`, and the buffer is
empty again; nothing is reported even in the last slot. -/
def Obligations.CarriageReturnDispatchesTheLine : Prop :=
  ∀ s : State, s.MayServiceTx → s.status.getLsbD 4 = false → s.CommandPosition → s.params.wf →
    foldByte s.params s.txByte = s.params.chCr →
    ∃ t, exec .txService s = .next t ∧ t.offset = 0 ∧
      t.lineRead s.offset = 0 ∧ (∀ a, a ≠ s.offset → t.lineRead a = s.lineRead a) ∧
      t.events = s.events ++ s.echoReports ++
        [.lineDispatch (if s.inputs.mode = .browser then .browser else .at) ((List.range s.offset).map s.lineRead)]

/-- R135, R153: a character that fills the buffer closes the line without itself, and the length is reported after the
echo's own report (R158). -/
def Obligations.FullBufferDispatchesTheLineAndReports : Prop :=
  ∀ s : State, s.MayServiceTx → s.status.getLsbD 4 = false → s.CommandPosition →
    foldByte s.params s.txByte ≠ s.params.chBs → foldByte s.params s.txByte ≠ s.params.chDel →
    foldByte s.params s.txByte ≠ s.params.chCr → s.offset + 1 = s.params.txLineMax →
    ∃ t, exec .txService s = .next t ∧ t.offset = 0 ∧
      t.lineRead s.offset = 0 ∧ (∀ a, a ≠ s.offset → t.lineRead a = s.lineRead a) ∧
      t.events = s.events ++ s.echoReports ++
        [.report .lineMaxLen,
          .lineDispatch (if s.inputs.mode = .browser then .browser else .at) ((List.range s.offset).map s.lineRead)]

/-- R141. -/
def Obligations.EscapeCheckRequestsTheHangup : Prop :=
  ∀ s : State, s.OnPoll → s.pollPhase = .idle →
    (s.plusCount = 3 ∧ 1000 ≤ (s.inputs.nowMs - s.lastTxTime).toNat →
      exec .escChk s = .next { s with plusCount := 0, events := s.events ++ [.hangupReq] }) ∧
    (¬ (s.plusCount = 3 ∧ 1000 ≤ (s.inputs.nowMs - s.lastTxTime).toNat) → exec .escChk s = .next s)

/-- R140, R141, R142: three '+' written and forwarded online, a second of silence before the first and after the third
(none is asked for around the second), end in one hangup request. -/
def Obligations.ThreePlusWithSilenceRequestTheHangup : Prop :=
  ∀ (first second third last : Inputs) (s : State),
    let plus : Issue := issueOf first (.wrData s.params.chPlus)
    (∀ inp ∈ [first, second, third], inp.mode = .offline ∧ inp.connected = true) →
    s.initialised = true → s.pollPhase = .idle → s.indicesInRange → s.plusCount = 0 →
    1000 ≤ (first.nowMs - s.lastTxTime).toNat → 1000 ≤ (last.nowMs - third.nowMs).toNat →
    s.schedule = [plus, issueOf first .txService, plus, issueOf second .txService, plus, issueOf third .txService,
      issueOf last .escChk] →
    ∃ t, Host.Core.run Sys2Proof.core 7 s = .next t ∧ t.schedule = [] ∧ t.plusCount = 0 ∧
      t.events = s.events ++ [.transportWrite s.params.chPlus, .transportWrite s.params.chPlus,
        .transportWrite s.params.chPlus, .hangupReq]

/-- R142: fewer than three '+' forwarded online never request a hangup: over any run, three of them stand behind each. -/
def Obligations.HangupNeedsThreePlusForwarded : Prop :=
  ∀ (k : Nat) (s t : State), s.plusCount = 0 → Host.Core.run Sys2Proof.core k s = .next t →
    3 * (t.events.count .hangupReq - s.events.count .hangupReq) ≤
      t.events.count (.transportWrite s.params.chPlus) - s.events.count (.transportWrite s.params.chPlus)

/-! ### INIT -/

/-- R180, R36: INIT runs in every state its agent issues it in, and leaves every element the rules give a reset value at
that value. Of the elements they call unspecified nothing is said here; the outputs and what the environment supplies, which
are no state of R10, stay. -/
def Obligations.InitEstablishesTheResetValues : Prop :=
  ∀ s : State, s.agent = .init →
    ∃ t, exec .init s = .next t ∧
      (t.flag .interruptPending = false ∧ t.flag .rxFull = false ∧ t.flag .txEmpty = true ∧
        t.flag .overrunError = false ∧ t.flag .framingError = false ∧ t.flag .parityError = false ∧
        t.flag .dataSetReady = s.params.dsrReset ∧ t.flag .carrierDetect = s.params.dcdReset) ∧
      (t.command = s.params.cmdDefault ∧ t.control = s.params.ctrlReset ∧ t.countdown = 0 ∧ t.nmiAsserted = false ∧
        t.head = 0 ∧ t.tail = 0 ∧ t.offset = 0 ∧ t.plusCount = 0 ∧ t.lastTxTime = s.inputs.nowMs ∧
        t.pollPhase = .idle) ∧
      (t.used = 0 ∧ t.ready = !s.params.cmdDefault.getLsbD 1 ∧ t.initialised = true) ∧
      (t.params = s.params ∧ t.events = s.events ∧ t.dataOut = s.dataOut ∧ t.agent = s.agent ∧ t.inputs = s.inputs ∧
        t.schedule = s.schedule)

/-- R180: after INIT the invariants of R35 hold, from whatever state it ran in. The clauses `MemoryOk` and `Written` are about
the form the model gives the two memories, which is its own choice (notes/assumptions/4.md): R36 leaves them unspecified. -/
def Obligations.InitEstablishesTheInvariants : Prop :=
  ∀ s t : State, s.params.wf → exec .init s = .next t → t.Consistent ∧ t.MemoryOk ∧ t.Written

/-- The state right after reset meets every invariant stated below. What `State.reset` is beside the values of R36
(notes/assumptions/2.md) and the canonical form of memory (notes/assumptions/4.md) are the model's choice. -/
def Obligations.ResetMeetsTheInvariants : Prop :=
  State.reset.params.wf ∧ State.reset.Consistent ∧ State.reset.MemoryOk ∧ State.reset.Written ∧
    State.reset.HeldByteKept

/-- INIT leaves the state that `State.reset` is an instance of, for every instance, input and draw; the outputs and the
schedule, which are no state of R10, stay. That the machine starts in this state on the open instance with `resetInputs`
(notes/assumptions/2.md), and that the unspecified values of R36 are draws numbered by `drawNo` (notes/assumptions/3.md), is
the model's choice. -/
def Obligations.InitLeavesTheStateResetIs : Prop :=
  State.reset = State.resetOf Config.params resetInputs 0 ∧
  ∀ s : State, s.agent = .init →
    exec .init s = .next
      { State.resetOf s.params s.inputs (s.drawNo + 1) with
        events := s.events, dataOut := s.dataOut, agent := s.agent, schedule := s.schedule }

/-! ### The agents' rights -/

/-- R164, R66: an operation issued by another agent than its own is refused. That this is the reason named where another
ground holds as well is the model's choice (notes/assumptions/7.md). -/
def Obligations.WrongAgentIsRefused : Prop :=
  ∀ (d : Byte) (s : State),
    (s.agent ≠ .bus → ∀ i ∈ [Instr.rdData, .rdStatus, .rdCommand, .rdControl, .wrData d, .wrStatus d, .wrCommand d,
      .wrControl d], exec i s = .refused .wrongAgent) ∧
    (s.agent ≠ .cyc → exec .tick s = .refused .wrongAgent) ∧
    (s.agent ≠ .poll → ∀ i ∈ [Instr.rxqPut d, .rxqClear, .rxService, .rxFlush, .nmiTimeoutChk, .txService, .escChk],
      exec i s = .refused .wrongAgent) ∧
    (s.agent ≠ .init → exec .init s = .refused .wrongAgent)

/-- R164, R29, R117: a POLL operation in a phase that does not allow it is refused, and so is RX_SERVICE in phase Idle
while a page prompt is shown (notes/assumptions/9.md). That these are the reasons named where an index is out of range as
well is the model's choice (notes/assumptions/7.md). -/
def Obligations.WrongPhaseIsRefused : Prop :=
  ∀ (d : Byte) (s : State), s.OnPoll →
    (s.pollPhase ≠ .idle → ∀ i ∈ [Instr.rxqPut d, .rxqClear, .rxFlush, .escChk],
      exec i s = .refused .wrongPhase) ∧
    (s.pollPhase = .immWait → exec .rxService s = .refused .wrongPhase) ∧
    (s.pollPhase = .flushing → exec .txService s = .refused .wrongPhase) ∧
    (s.pollPhase = .idle → s.inputs.pagePaused = true → exec .rxService s = .refused .pagePaused)

/-- R181: before the first INIT no operation but INIT is defined. -/
def Obligations.NothingRunsBeforeInit : Prop :=
  ∀ (i : Instr) (s t : State), s.initialised = false → exec i s = .next t → i = .init

/-- R43: a state that violates the invariant of the indices is to be refused. Which operations refuse it is the model's
choice (notes/assumptions/8.md): one that would use an index outside its space is refused, in every phase and under every
page gate that allow it. -/
def Obligations.IndexOutOfRangeIsRefused : Prop :=
  ∀ (d : Byte) (s : State), s.OnPoll → ¬ s.indicesInRange →
    ∀ i ∈ [Instr.rxqPut d, .rxService, .rxFlush, .txService], phaseAllows s.pollPhase i = true →
      pageAllows s.pollPhase s.inputs.pagePaused i = true → exec i s = .refused .indexOutOfRange

/-- R164, the last column, for the CYC and POLL agents: what each operation may write. Of these only RX_FLUSH, RX_SERVICE and
TX_SERVICE write the phase (R29). -/
def Obligations.CycleAndPollOperationsWriteOnlyTheirShare : Prop :=
  ∀ (d : Byte) (s t : State),
    (exec .tick s = .next t → t = { s with countdown := t.countdown }) ∧
    (∀ i ∈ [Instr.rxqPut d, .rxqClear], exec i s = .next t →
      t = { s with rxq := t.rxq, head := t.head, tail := t.tail, events := t.events }) ∧
    (exec .rxFlush s = .next t → t = { s with pollPhase := t.pollPhase }) ∧
    (exec .escChk s = .next t → t = { s with plusCount := t.plusCount, events := t.events }) ∧
    (exec .rxService s = .next t →
      t = { s with tail := t.tail, rxByte := t.rxByte, status := t.status, nmiAsserted := t.nmiAsserted
                   nmiAssertTime := t.nmiAssertTime, pollPhase := t.pollPhase } ∧
      t.status &&& 0x77#8 = s.status &&& 0x77#8) ∧
    (exec .txService s = .next t →
      t = { s with status := t.status, rxq := t.rxq, head := t.head, line := t.line, offset := t.offset
                   plusCount := t.plusCount, lastTxTime := t.lastTxTime, rxByte := t.rxByte
                   nmiAsserted := t.nmiAsserted, nmiAssertTime := t.nmiAssertTime, pollPhase := t.pollPhase
                   events := t.events } ∧
      t.status &&& 0x67#8 = s.status &&& 0x67#8) ∧
    (exec .nmiTimeoutChk s = .next t →
      t = { s with status := t.status, nmiAsserted := t.nmiAsserted, events := t.events } ∧
      t.status &&& 0x77#8 = s.status &&& 0x77#8)

/-! ### Flags and the receive interrupt -/

/-- R17, R138: WR_DATA alone clears txEmpty, and TX_SERVICE and INIT alone set it. -/
def Obligations.TxEmptyIsTheHandshake : Prop :=
  ∀ (i : Instr) (s t : State), exec i s = .next t →
    (s.flag .txEmpty = true → t.flag .txEmpty = false → ∃ d, i = .wrData d) ∧
    (s.flag .txEmpty = false → t.flag .txEmpty = true → i = .txService ∨ i = .init)

/-- R18, R19: no operation but INIT changes the error flags, carrierDetect or dataSetReady. -/
def Obligations.ErrorAndModemFlagsNeverChange : Prop :=
  ∀ (i : Instr) (s t : State), exec i s = .next t → i ≠ .init →
    ∀ f ∈ [Flag.overrunError, .framingError, .parityError, .carrierDetect, .dataSetReady], t.flag f = s.flag f

/-- R15: an operation that writes one of the receive flags writes the other to the same value. -/
def Obligations.ReceiveFlagsMoveTogether : Prop :=
  ∀ (i : Instr) (s t : State), exec i s = .next t →
    t.flag .rxFull = t.flag .interruptPending ∨
      (t.flag .rxFull = s.flag .rxFull ∧ t.flag .interruptPending = s.flag .interruptPending)

/-- R156, R32, R191: the interrupt is asserted only by RX_SERVICE or TX_SERVICE, and only in a state that is Ready; so
never while command bit 1 disables it. -/
def Obligations.InterruptRisesOnlyWhenReady : Prop :=
  ∀ (i : Instr) (s t : State), exec i s = .next t → s.nmiAsserted = false → t.nmiAsserted = true →
    (i = .rxService ∨ i = .txService) ∧ s.ready = true ∧ s.command.getLsbD 1 = false ∧
      t.nmiAssertTime = s.inputs.nowUs

/-- R156: the pending interrupt is cleared by RD_DATA, by a timeout that fires or by INIT, and by nothing else. -/
def Obligations.InterruptFallsOnlyByReadTimeoutOrInit : Prop :=
  ∀ (i : Instr) (s t : State), exec i s = .next t → s.nmiAsserted = true → t.nmiAsserted = false →
    i = .rdData ∨ i = .init ∨
      (i = .nmiTimeoutChk ∧ s.params.nmiTimeoutUs < (s.inputs.nowUs - s.nmiAssertTime).toNat ∧
        t.events = s.events ++ [.report .nmiTimeout])

/-- R21, R87: the control register has no function: an operation that neither reads nor writes it does the same with
any other value in it, and leaves that value there. -/
def Obligations.ControlRegisterHasNoFunction : Prop :=
  ∀ (i : Instr) (s t : State) (c : Byte), i ≠ .rdControl → (∀ d, i ≠ .wrControl d) → i ≠ .init →
    exec i s = .next t → exec i { s with control := c } = .next { t with control := c }

/-- R20: of the command register only bit 1 has a function. -/
def Obligations.OtherCommandBitsHaveNoFunction : Prop :=
  ∀ (i : Instr) (s t : State) (c : Byte), i ≠ .rdCommand → (∀ d, i ≠ .wrCommand d) → (∀ d, i ≠ .wrStatus d) →
    i ≠ .init → c.getLsbD 1 = s.command.getLsbD 1 →
    exec i s = .next t → exec i { s with command := c } = .next { t with command := c }

/-! ### Waits -/

/-- R121: a flush ends inside the RX_SERVICE that leaves the queue empty (or by INIT), and not before. -/
def Obligations.FlushEndsWhenTheQueueIsEmpty : Prop :=
  ∀ (i : Instr) (s t : State), exec i s = .next t → s.pollPhase = .flushing →
    (t.pollPhase ≠ .flushing → i ≠ .init → i = .rxService ∧ t.used = 0 ∧ t.pollPhase = .idle) ∧
    (i = .rxService → t.used = 0 → t.pollPhase = .idle)

/-- R122, R190: with the receive interrupt disabled neither wait ends: while the host writes neither the command nor the
status register, no operation leaves the phase. The promise that `mode` stays `browser` while an echo is held, and the
invariants of the two phases, are premises. -/
def Obligations.WaitsHangWhileTheInterruptIsDisabled : Prop :=
  ∀ (i : Instr) (s t : State), exec i s = .next t → i ≠ .init → s.command.getLsbD 1 = true →
    (s.pollPhase = .flushing ∧ 0 < s.used ∨
      s.pollPhase = .immWait ∧ s.inputs.mode = .browser ∧ s.flag .txEmpty = false) →
    t.pollPhase = s.pollPhase ∧ t.used = s.used ∧ (t.flag .txEmpty = true → s.flag .txEmpty = true)

/-! ### Encoding -/

/-- R61, R62: the decoder reads back every operation the encoder writes, with every operand. -/
def Obligations.DecodeInvertsEncode : Prop := ∀ i : Instr, decode (encode i) = .ok i

/-- R62, R65: each operation has one word: what decodes to it is what it encodes to. -/
def Obligations.EncodeInvertsDecode : Prop := ∀ (w : Desc) (i : Instr), decode w = .ok i → encode i = w

/-- R65: exactly the reserved descriptors are refused. -/
def Obligations.ExactlyTheReservedWordsAreRefused : Prop :=
  ∀ w : Desc, (∃ e, decode w = .error e) ↔
    (0xA ≤ w.toNat / 4096 ∧ w.toNat / 4096 ≤ 0xE) ∨
    w.toNat / 1024 % 4 ≠ 0 ∨
    (w.toNat / 4096 ≠ 0 ∧ w.toNat / 4096 ≠ 1 ∧ w.toNat / 256 % 4 ≠ 0) ∨
    (w.toNat / 4096 ≠ 1 ∧ w.toNat / 4096 ≠ 3 ∧ w.toNat % 256 ≠ 0)

/-- R62: the words of all 17 rows of the table, for every operand byte of the rows that have one (the second byte of the
word), each read as the operation it stands for. -/
def Obligations.TableWordsDecodeAsTheTableSays : Prop :=
  (decode 0x0000#16 = .ok .rdData ∧ decode 0x0100#16 = .ok .rdStatus ∧ decode 0x0200#16 = .ok .rdCommand ∧
    decode 0x0300#16 = .ok .rdControl) ∧
  (∀ d : Byte, decode (0x10#8 ++ d) = .ok (.wrData d) ∧ decode (0x11#8 ++ d) = .ok (.wrStatus d) ∧
    decode (0x12#8 ++ d) = .ok (.wrCommand d) ∧ decode (0x13#8 ++ d) = .ok (.wrControl d) ∧
    decode (0x30#8 ++ d) = .ok (.rxqPut d)) ∧
  (decode 0x2000#16 = .ok .tick ∧ decode 0x4000#16 = .ok .rxqClear ∧ decode 0x5000#16 = .ok .rxService ∧
    decode 0x6000#16 = .ok .rxFlush ∧ decode 0x7000#16 = .ok .nmiTimeoutChk ∧ decode 0x8000#16 = .ok .txService ∧
    decode 0x9000#16 = .ok .escChk ∧ decode 0xF000#16 = .ok .init)

/-! ### The step -/

/-- A step runs the decoded operation whole, in the state that has its agent and its sampled inputs, `data_out` empty and
the rest of the schedule still to come (R6, R46, R64). That the total order is a list of issues in State, of which a step takes
the first (notes/assumptions/6.md), and that `data_out` is cleared before the operation (notes/assumptions/13.md), is the
model's choice. -/
def Obligations.StepRunsTheNextOperation : Prop :=
  ∀ (s : State) (o : Issue) (rest : List Issue) (i : Instr), s.schedule = o :: rest → decode o.word = .ok i →
    step s = exec i { s with agent := o.agent, inputs := o.inputs, dataOut := none, schedule := rest }

/-- R65: a reserved descriptor is refused, by the reason the decoder gives. That the block waits as it is with no operation
issued is the model's choice (notes/assumptions/5.md). -/
def Obligations.StepRefusesAReservedWordAndWaitsForAnOperation : Prop :=
  ∀ s : State,
    (∀ (o : Issue) (rest : List Issue) (e : DecodeError), s.schedule = o :: rest → decode o.word = .error e →
      step s = .refused (.reservedDescriptor e)) ∧
    (s.schedule = [] → step s = .next s)

/-! ### Invariants of every step -/

/-- R35, which the spec marks as derived: the invariants I-a to I-g, kept by every step of every legal instance. -/
def Obligations.EveryStepKeepsTheInvariants : Prop :=
  ∀ s t : State, s.params.wf → s.Consistent → step s = .next t → t.params.wf ∧ t.Consistent

/-- The two memories stay in canonical form and inside their spaces. The spaces are R40's; the canonical form, strictly rising
addresses, is the model's choice (notes/assumptions/4.md). -/
def Obligations.EveryStepKeepsMemoryCanonical : Prop :=
  ∀ s t : State, s.params.wf → s.MemoryOk → step s = .next t → t.MemoryOk

/-- R30, R33: a queued slot and an accumulated character have always been written since INIT, so INIT's draws of the ring
and the line are never read. -/
def Obligations.EveryStepKeepsTheQueueAndLineWritten : Prop :=
  ∀ s t : State, s.params.wf → s.Consistent → s.Written → step s = .next t → t.Written

/-- U11 and the log entry notes/assumptions/3.md: the free values of the ring and the line are unobservable: no operation but INIT depends on them. -/
def Obligations.RingAndLineDrawsAreUnobservable : Prop :=
  ∀ (i : Instr) (s t : State) (n : Nat), s.params.wf → s.Consistent → s.Written → i ≠ .init →
    exec i s = .next t → exec i { s with drawNo := n } = .next { t with drawNo := n }

/-- R138: a held browser echo keeps its byte. -/
def Obligations.EveryStepKeepsTheHeldByte : Prop :=
  ∀ s t : State, s.HeldByteKept → step s = .next t → t.HeldByteKept

/-- The instance is fixed: no step changes a parameter (R7, R10), and nothing emitted is withdrawn (R34). -/
def Obligations.ParametersAreFixedAndEventsOnlyGrow : Prop :=
  ∀ s t : State, step s = .next t → t.params = s.params ∧ s.events <+: t.events

/-! ### Runs -/

/-- R102, which the spec marks as derived: between a host read of the data location and the next assertion of `nmi` at least RX_GAP_CYCLES TICKs occur,
however the agents' operations interleave; no INIT comes between. -/
def Obligations.GapSeparatesAReadFromTheNextInterrupt : Prop :=
  ∀ (k : Nat) (r s t : State), exec .rdData r = .next s →
    0xF000#16 ∉ s.wordsOf k → Host.Core.run Sys2Proof.core k s = .next t → t.nmiAsserted = true →
    s.params.rxGapCycles ≤ s.countOf k 0x2000#16

/-- R119, which the spec marks as derived: while an interrupt is pending, without a data read, a timeout that fires or an INIT, nothing is delivered: the
byte, its stamp and the assertion stay. -/
def Obligations.NoDeliveryOverAPendingByte : Prop :=
  ∀ (k : Nat) (s t : State), s.nmiAsserted = true → s.FlagsAgree →
    0x0000#16 ∉ s.wordsOf k → 0xF000#16 ∉ s.wordsOf k → Host.Core.run Sys2Proof.core k s = .next t →
    t.events.count (.report .nmiTimeout) = s.events.count (.report .nmiTimeout) →
    t.nmiAsserted = true ∧ t.rxByte = s.rxByte ∧ t.nmiAssertTime = s.nmiAssertTime

/-- R115, R119: a data read, RX_GAP_CYCLES ticks and one RX_SERVICE deliver the next queued byte, when it is not zero and
the receive interrupt is enabled. -/
def Obligations.ReadThenGapThenServiceDelivers : Prop :=
  ∀ (inp : Inputs) (s : State), s.initialised = true → s.pollPhase = .idle → inp.pagePaused = false →
    s.indicesInRange → 0 < s.used → s.rxqRead s.tail ≠ 0 → s.command.getLsbD 1 = false →
    s.schedule = issueOf inp .rdData :: pseudoTicks inp s.params.rxGapCycles ++ [issueOf inp .rxService] →
    ∃ t, Host.Core.run Sys2Proof.core (s.params.rxGapCycles + 2) s = .next t ∧ t.schedule = [] ∧
      t.rxByte = s.rxqRead s.tail ∧ t.nmiAsserted = true ∧ t.flag .rxFull = true ∧ t.countdown = 0 ∧
      t.used = s.used - 1
end

