-- ==== Sys2Proof/Laws/Decode.lean ====
section
/-! SUPPORT. A descriptor word and its four fields are the same thing (R61). -/

namespace Sys2Proof

/-- A descriptor's word as a number: the fields at the positions of R61. -/
theorem Descriptor.toWord_toNat (f : Descriptor) :
    f.toWord.toNat = f.op.toNat * 4096 + f.z.toNat * 1024 + f.addr.toNat * 256 + f.data.toNat := by
  have h1 : f.toWord.toNat =
      (((f.op.toNat <<< 2 ||| f.z.toNat) <<< 2 ||| f.addr.toNat) <<< 8 ||| f.data.toNat) := by
    unfold Descriptor.toWord
    rw [BitVec.toNat_append, BitVec.toNat_append, BitVec.toNat_append]
  have hz := f.z.isLt
  have ha := f.addr.isLt
  have hd := f.data.isLt
  rw [h1, ← Nat.shiftLeft_add_eq_or_of_lt hz, ← Nat.shiftLeft_add_eq_or_of_lt ha, ← Nat.shiftLeft_add_eq_or_of_lt hd]
  simp only [Nat.shiftLeft_eq]
  omega

/-- The fields of a word, as the digits R61 takes from it. -/
theorem Descriptor.ofWord_toNat (w : Desc) :
    (Descriptor.ofWord w).op.toNat = w.toNat / 4096 ∧ (Descriptor.ofWord w).z.toNat = w.toNat / 1024 % 4 ∧
    (Descriptor.ofWord w).addr.toNat = w.toNat / 256 % 4 ∧ (Descriptor.ofWord w).data.toNat = w.toNat % 256 := by
  have := w.isLt
  simp only [Descriptor.ofWord, BitVec.extractLsb'_toNat, Nat.shiftRight_eq_div_pow]
  norm_num
  omega

/-- No bit of a word is outside the four fields. -/
theorem Descriptor.toWord_ofWord (w : Desc) : (Descriptor.ofWord w).toWord = w := by
  apply BitVec.eq_of_toNat_eq
  obtain ⟨h1, h2, h3, h4⟩ := Descriptor.ofWord_toNat w
  rw [Descriptor.toWord_toNat, h1, h2, h3, h4]
  omega

/-- No field of a descriptor is lost in its word. -/
theorem Descriptor.ofWord_toWord (f : Descriptor) : Descriptor.ofWord f.toWord = f := by
  obtain ⟨h1, h2, h3, h4⟩ := Descriptor.ofWord_toNat f.toWord
  rw [Descriptor.toWord_toNat] at h1 h2 h3 h4
  have hz := f.z.isLt
  have ha := f.addr.isLt
  have hd := f.data.isLt
  have e1 : (Descriptor.ofWord f.toWord).op = f.op := BitVec.eq_of_toNat_eq (by omega)
  have e2 : (Descriptor.ofWord f.toWord).z = f.z := BitVec.eq_of_toNat_eq (by omega)
  have e3 : (Descriptor.ofWord f.toWord).addr = f.addr := BitVec.eq_of_toNat_eq (by omega)
  have e4 : (Descriptor.ofWord f.toWord).data = f.data := BitVec.eq_of_toNat_eq (by omega)
  generalize Descriptor.ofWord f.toWord = g at *
  obtain ⟨_, _, _, _⟩ := g
  obtain ⟨_, _, _, _⟩ := f
  simp_all

end Sys2Proof
end

