-- ==== Sys2Proof/Laws/State.lean ====
section
/-! SUPPORT. What each named update of the state leaves in each field: one lemma for each field of each update, true by
unfolding, so that no proof unfolds a record update. -/

namespace Sys2Proof.Machine

/-! ### setFlag -/
@[simp] theorem State.setFlag_rxByte (f : Flag) (v : Bool) (s : State) : (s.setFlag f v).rxByte = s.rxByte := rfl
@[simp] theorem State.setFlag_txByte (f : Flag) (v : Bool) (s : State) : (s.setFlag f v).txByte = s.txByte := rfl
@[simp] theorem State.setFlag_status (f : Flag) (v : Bool) (s : State) : (s.setFlag f v).status = putFlag f v s.status := rfl
@[simp] theorem State.setFlag_command (f : Flag) (v : Bool) (s : State) : (s.setFlag f v).command = s.command := rfl
@[simp] theorem State.setFlag_control (f : Flag) (v : Bool) (s : State) : (s.setFlag f v).control = s.control := rfl
@[simp] theorem State.setFlag_countdown (f : Flag) (v : Bool) (s : State) : (s.setFlag f v).countdown = s.countdown := rfl
@[simp] theorem State.setFlag_nmiAsserted (f : Flag) (v : Bool) (s : State) : (s.setFlag f v).nmiAsserted = s.nmiAsserted := rfl
@[simp] theorem State.setFlag_nmiAssertTime (f : Flag) (v : Bool) (s : State) : (s.setFlag f v).nmiAssertTime = s.nmiAssertTime := rfl
@[simp] theorem State.setFlag_rxq (f : Flag) (v : Bool) (s : State) : (s.setFlag f v).rxq = s.rxq := rfl
@[simp] theorem State.setFlag_head (f : Flag) (v : Bool) (s : State) : (s.setFlag f v).head = s.head := rfl
@[simp] theorem State.setFlag_tail (f : Flag) (v : Bool) (s : State) : (s.setFlag f v).tail = s.tail := rfl
@[simp] theorem State.setFlag_line (f : Flag) (v : Bool) (s : State) : (s.setFlag f v).line = s.line := rfl
@[simp] theorem State.setFlag_offset (f : Flag) (v : Bool) (s : State) : (s.setFlag f v).offset = s.offset := rfl
@[simp] theorem State.setFlag_plusCount (f : Flag) (v : Bool) (s : State) : (s.setFlag f v).plusCount = s.plusCount := rfl
@[simp] theorem State.setFlag_lastTxTime (f : Flag) (v : Bool) (s : State) : (s.setFlag f v).lastTxTime = s.lastTxTime := rfl
@[simp] theorem State.setFlag_pollPhase (f : Flag) (v : Bool) (s : State) : (s.setFlag f v).pollPhase = s.pollPhase := rfl
@[simp] theorem State.setFlag_params (f : Flag) (v : Bool) (s : State) : (s.setFlag f v).params = s.params := rfl
@[simp] theorem State.setFlag_initialised (f : Flag) (v : Bool) (s : State) : (s.setFlag f v).initialised = s.initialised := rfl
@[simp] theorem State.setFlag_drawNo (f : Flag) (v : Bool) (s : State) : (s.setFlag f v).drawNo = s.drawNo := rfl
@[simp] theorem State.setFlag_dataOut (f : Flag) (v : Bool) (s : State) : (s.setFlag f v).dataOut = s.dataOut := rfl
@[simp] theorem State.setFlag_events (f : Flag) (v : Bool) (s : State) : (s.setFlag f v).events = s.events := rfl
@[simp] theorem State.setFlag_agent (f : Flag) (v : Bool) (s : State) : (s.setFlag f v).agent = s.agent := rfl
@[simp] theorem State.setFlag_inputs (f : Flag) (v : Bool) (s : State) : (s.setFlag f v).inputs = s.inputs := rfl
@[simp] theorem State.setFlag_schedule (f : Flag) (v : Bool) (s : State) : (s.setFlag f v).schedule = s.schedule := rfl

/-! ### setRxFlags -/
@[simp] theorem State.setRxFlags_rxByte (v : Bool) (s : State) : (s.setRxFlags v).rxByte = s.rxByte := rfl
@[simp] theorem State.setRxFlags_txByte (v : Bool) (s : State) : (s.setRxFlags v).txByte = s.txByte := rfl
@[simp] theorem State.setRxFlags_status (v : Bool) (s : State) : (s.setRxFlags v).status = putFlag .interruptPending v (putFlag .rxFull v s.status) := rfl
@[simp] theorem State.setRxFlags_command (v : Bool) (s : State) : (s.setRxFlags v).command = s.command := rfl
@[simp] theorem State.setRxFlags_control (v : Bool) (s : State) : (s.setRxFlags v).control = s.control := rfl
@[simp] theorem State.setRxFlags_countdown (v : Bool) (s : State) : (s.setRxFlags v).countdown = s.countdown := rfl
@[simp] theorem State.setRxFlags_nmiAsserted (v : Bool) (s : State) : (s.setRxFlags v).nmiAsserted = s.nmiAsserted := rfl
@[simp] theorem State.setRxFlags_nmiAssertTime (v : Bool) (s : State) : (s.setRxFlags v).nmiAssertTime = s.nmiAssertTime := rfl
@[simp] theorem State.setRxFlags_rxq (v : Bool) (s : State) : (s.setRxFlags v).rxq = s.rxq := rfl
@[simp] theorem State.setRxFlags_head (v : Bool) (s : State) : (s.setRxFlags v).head = s.head := rfl
@[simp] theorem State.setRxFlags_tail (v : Bool) (s : State) : (s.setRxFlags v).tail = s.tail := rfl
@[simp] theorem State.setRxFlags_line (v : Bool) (s : State) : (s.setRxFlags v).line = s.line := rfl
@[simp] theorem State.setRxFlags_offset (v : Bool) (s : State) : (s.setRxFlags v).offset = s.offset := rfl
@[simp] theorem State.setRxFlags_plusCount (v : Bool) (s : State) : (s.setRxFlags v).plusCount = s.plusCount := rfl
@[simp] theorem State.setRxFlags_lastTxTime (v : Bool) (s : State) : (s.setRxFlags v).lastTxTime = s.lastTxTime := rfl
@[simp] theorem State.setRxFlags_pollPhase (v : Bool) (s : State) : (s.setRxFlags v).pollPhase = s.pollPhase := rfl
@[simp] theorem State.setRxFlags_params (v : Bool) (s : State) : (s.setRxFlags v).params = s.params := rfl
@[simp] theorem State.setRxFlags_initialised (v : Bool) (s : State) : (s.setRxFlags v).initialised = s.initialised := rfl
@[simp] theorem State.setRxFlags_drawNo (v : Bool) (s : State) : (s.setRxFlags v).drawNo = s.drawNo := rfl
@[simp] theorem State.setRxFlags_dataOut (v : Bool) (s : State) : (s.setRxFlags v).dataOut = s.dataOut := rfl
@[simp] theorem State.setRxFlags_events (v : Bool) (s : State) : (s.setRxFlags v).events = s.events := rfl
@[simp] theorem State.setRxFlags_agent (v : Bool) (s : State) : (s.setRxFlags v).agent = s.agent := rfl
@[simp] theorem State.setRxFlags_inputs (v : Bool) (s : State) : (s.setRxFlags v).inputs = s.inputs := rfl
@[simp] theorem State.setRxFlags_schedule (v : Bool) (s : State) : (s.setRxFlags v).schedule = s.schedule := rfl

/-! ### emit -/
@[simp] theorem State.emit_rxByte (e : Event) (s : State) : (s.emit e).rxByte = s.rxByte := rfl
@[simp] theorem State.emit_txByte (e : Event) (s : State) : (s.emit e).txByte = s.txByte := rfl
@[simp] theorem State.emit_status (e : Event) (s : State) : (s.emit e).status = s.status := rfl
@[simp] theorem State.emit_command (e : Event) (s : State) : (s.emit e).command = s.command := rfl
@[simp] theorem State.emit_control (e : Event) (s : State) : (s.emit e).control = s.control := rfl
@[simp] theorem State.emit_countdown (e : Event) (s : State) : (s.emit e).countdown = s.countdown := rfl
@[simp] theorem State.emit_nmiAsserted (e : Event) (s : State) : (s.emit e).nmiAsserted = s.nmiAsserted := rfl
@[simp] theorem State.emit_nmiAssertTime (e : Event) (s : State) : (s.emit e).nmiAssertTime = s.nmiAssertTime := rfl
@[simp] theorem State.emit_rxq (e : Event) (s : State) : (s.emit e).rxq = s.rxq := rfl
@[simp] theorem State.emit_head (e : Event) (s : State) : (s.emit e).head = s.head := rfl
@[simp] theorem State.emit_tail (e : Event) (s : State) : (s.emit e).tail = s.tail := rfl
@[simp] theorem State.emit_line (e : Event) (s : State) : (s.emit e).line = s.line := rfl
@[simp] theorem State.emit_offset (e : Event) (s : State) : (s.emit e).offset = s.offset := rfl
@[simp] theorem State.emit_plusCount (e : Event) (s : State) : (s.emit e).plusCount = s.plusCount := rfl
@[simp] theorem State.emit_lastTxTime (e : Event) (s : State) : (s.emit e).lastTxTime = s.lastTxTime := rfl
@[simp] theorem State.emit_pollPhase (e : Event) (s : State) : (s.emit e).pollPhase = s.pollPhase := rfl
@[simp] theorem State.emit_params (e : Event) (s : State) : (s.emit e).params = s.params := rfl
@[simp] theorem State.emit_initialised (e : Event) (s : State) : (s.emit e).initialised = s.initialised := rfl
@[simp] theorem State.emit_drawNo (e : Event) (s : State) : (s.emit e).drawNo = s.drawNo := rfl
@[simp] theorem State.emit_dataOut (e : Event) (s : State) : (s.emit e).dataOut = s.dataOut := rfl
@[simp] theorem State.emit_events (e : Event) (s : State) : (s.emit e).events = s.events ++ [e] := rfl
@[simp] theorem State.emit_agent (e : Event) (s : State) : (s.emit e).agent = s.agent := rfl
@[simp] theorem State.emit_inputs (e : Event) (s : State) : (s.emit e).inputs = s.inputs := rfl
@[simp] theorem State.emit_schedule (e : Event) (s : State) : (s.emit e).schedule = s.schedule := rfl

/-! ### raise -/
@[simp] theorem State.raise_rxByte (c : Condition) (s : State) : (s.raise c).rxByte = s.rxByte := rfl
@[simp] theorem State.raise_txByte (c : Condition) (s : State) : (s.raise c).txByte = s.txByte := rfl
@[simp] theorem State.raise_status (c : Condition) (s : State) : (s.raise c).status = s.status := rfl
@[simp] theorem State.raise_command (c : Condition) (s : State) : (s.raise c).command = s.command := rfl
@[simp] theorem State.raise_control (c : Condition) (s : State) : (s.raise c).control = s.control := rfl
@[simp] theorem State.raise_countdown (c : Condition) (s : State) : (s.raise c).countdown = s.countdown := rfl
@[simp] theorem State.raise_nmiAsserted (c : Condition) (s : State) : (s.raise c).nmiAsserted = s.nmiAsserted := rfl
@[simp] theorem State.raise_nmiAssertTime (c : Condition) (s : State) : (s.raise c).nmiAssertTime = s.nmiAssertTime := rfl
@[simp] theorem State.raise_rxq (c : Condition) (s : State) : (s.raise c).rxq = s.rxq := rfl
@[simp] theorem State.raise_head (c : Condition) (s : State) : (s.raise c).head = s.head := rfl
@[simp] theorem State.raise_tail (c : Condition) (s : State) : (s.raise c).tail = s.tail := rfl
@[simp] theorem State.raise_line (c : Condition) (s : State) : (s.raise c).line = s.line := rfl
@[simp] theorem State.raise_offset (c : Condition) (s : State) : (s.raise c).offset = s.offset := rfl
@[simp] theorem State.raise_plusCount (c : Condition) (s : State) : (s.raise c).plusCount = s.plusCount := rfl
@[simp] theorem State.raise_lastTxTime (c : Condition) (s : State) : (s.raise c).lastTxTime = s.lastTxTime := rfl
@[simp] theorem State.raise_pollPhase (c : Condition) (s : State) : (s.raise c).pollPhase = s.pollPhase := rfl
@[simp] theorem State.raise_params (c : Condition) (s : State) : (s.raise c).params = s.params := rfl
@[simp] theorem State.raise_initialised (c : Condition) (s : State) : (s.raise c).initialised = s.initialised := rfl
@[simp] theorem State.raise_drawNo (c : Condition) (s : State) : (s.raise c).drawNo = s.drawNo := rfl
@[simp] theorem State.raise_dataOut (c : Condition) (s : State) : (s.raise c).dataOut = s.dataOut := rfl
@[simp] theorem State.raise_events (c : Condition) (s : State) : (s.raise c).events = s.events ++ [.report c] := rfl
@[simp] theorem State.raise_agent (c : Condition) (s : State) : (s.raise c).agent = s.agent := rfl
@[simp] theorem State.raise_inputs (c : Condition) (s : State) : (s.raise c).inputs = s.inputs := rfl
@[simp] theorem State.raise_schedule (c : Condition) (s : State) : (s.raise c).schedule = s.schedule := rfl

/-! ### deliver -/
@[simp] theorem State.deliver_rxByte (b : Byte) (s : State) : (s.deliver b).rxByte = b := rfl
@[simp] theorem State.deliver_txByte (b : Byte) (s : State) : (s.deliver b).txByte = s.txByte := rfl
@[simp] theorem State.deliver_status (b : Byte) (s : State) : (s.deliver b).status = putFlag .interruptPending true (putFlag .rxFull true s.status) := rfl
@[simp] theorem State.deliver_command (b : Byte) (s : State) : (s.deliver b).command = s.command := rfl
@[simp] theorem State.deliver_control (b : Byte) (s : State) : (s.deliver b).control = s.control := rfl
@[simp] theorem State.deliver_countdown (b : Byte) (s : State) : (s.deliver b).countdown = s.countdown := rfl
@[simp] theorem State.deliver_nmiAsserted (b : Byte) (s : State) : (s.deliver b).nmiAsserted = true := rfl
@[simp] theorem State.deliver_nmiAssertTime (b : Byte) (s : State) : (s.deliver b).nmiAssertTime = s.inputs.nowUs := rfl
@[simp] theorem State.deliver_rxq (b : Byte) (s : State) : (s.deliver b).rxq = s.rxq := rfl
@[simp] theorem State.deliver_head (b : Byte) (s : State) : (s.deliver b).head = s.head := rfl
@[simp] theorem State.deliver_tail (b : Byte) (s : State) : (s.deliver b).tail = s.tail := rfl
@[simp] theorem State.deliver_line (b : Byte) (s : State) : (s.deliver b).line = s.line := rfl
@[simp] theorem State.deliver_offset (b : Byte) (s : State) : (s.deliver b).offset = s.offset := rfl
@[simp] theorem State.deliver_plusCount (b : Byte) (s : State) : (s.deliver b).plusCount = s.plusCount := rfl
@[simp] theorem State.deliver_lastTxTime (b : Byte) (s : State) : (s.deliver b).lastTxTime = s.lastTxTime := rfl
@[simp] theorem State.deliver_pollPhase (b : Byte) (s : State) : (s.deliver b).pollPhase = s.pollPhase := rfl
@[simp] theorem State.deliver_params (b : Byte) (s : State) : (s.deliver b).params = s.params := rfl
@[simp] theorem State.deliver_initialised (b : Byte) (s : State) : (s.deliver b).initialised = s.initialised := rfl
@[simp] theorem State.deliver_drawNo (b : Byte) (s : State) : (s.deliver b).drawNo = s.drawNo := rfl
@[simp] theorem State.deliver_dataOut (b : Byte) (s : State) : (s.deliver b).dataOut = s.dataOut := rfl
@[simp] theorem State.deliver_events (b : Byte) (s : State) : (s.deliver b).events = s.events := rfl
@[simp] theorem State.deliver_agent (b : Byte) (s : State) : (s.deliver b).agent = s.agent := rfl
@[simp] theorem State.deliver_inputs (b : Byte) (s : State) : (s.deliver b).inputs = s.inputs := rfl
@[simp] theorem State.deliver_schedule (b : Byte) (s : State) : (s.deliver b).schedule = s.schedule := rfl

/-! ### withdraw -/
@[simp] theorem State.withdraw_rxByte (s : State) : s.withdraw.rxByte = s.rxByte := rfl
@[simp] theorem State.withdraw_txByte (s : State) : s.withdraw.txByte = s.txByte := rfl
@[simp] theorem State.withdraw_status (s : State) : s.withdraw.status = putFlag .interruptPending false (putFlag .rxFull false s.status) := rfl
@[simp] theorem State.withdraw_command (s : State) : s.withdraw.command = s.command := rfl
@[simp] theorem State.withdraw_control (s : State) : s.withdraw.control = s.control := rfl
@[simp] theorem State.withdraw_countdown (s : State) : s.withdraw.countdown = s.countdown := rfl
@[simp] theorem State.withdraw_nmiAsserted (s : State) : s.withdraw.nmiAsserted = false := rfl
@[simp] theorem State.withdraw_nmiAssertTime (s : State) : s.withdraw.nmiAssertTime = s.nmiAssertTime := rfl
@[simp] theorem State.withdraw_rxq (s : State) : s.withdraw.rxq = s.rxq := rfl
@[simp] theorem State.withdraw_head (s : State) : s.withdraw.head = s.head := rfl
@[simp] theorem State.withdraw_tail (s : State) : s.withdraw.tail = s.tail := rfl
@[simp] theorem State.withdraw_line (s : State) : s.withdraw.line = s.line := rfl
@[simp] theorem State.withdraw_offset (s : State) : s.withdraw.offset = s.offset := rfl
@[simp] theorem State.withdraw_plusCount (s : State) : s.withdraw.plusCount = s.plusCount := rfl
@[simp] theorem State.withdraw_lastTxTime (s : State) : s.withdraw.lastTxTime = s.lastTxTime := rfl
@[simp] theorem State.withdraw_pollPhase (s : State) : s.withdraw.pollPhase = s.pollPhase := rfl
@[simp] theorem State.withdraw_params (s : State) : s.withdraw.params = s.params := rfl
@[simp] theorem State.withdraw_initialised (s : State) : s.withdraw.initialised = s.initialised := rfl
@[simp] theorem State.withdraw_drawNo (s : State) : s.withdraw.drawNo = s.drawNo := rfl
@[simp] theorem State.withdraw_dataOut (s : State) : s.withdraw.dataOut = s.dataOut := rfl
@[simp] theorem State.withdraw_events (s : State) : s.withdraw.events = s.events := rfl
@[simp] theorem State.withdraw_agent (s : State) : s.withdraw.agent = s.agent := rfl
@[simp] theorem State.withdraw_inputs (s : State) : s.withdraw.inputs = s.inputs := rfl
@[simp] theorem State.withdraw_schedule (s : State) : s.withdraw.schedule = s.schedule := rfl

/-! ### rxqWrite -/
@[simp] theorem State.rxqWrite_rxByte (a : Nat) (b : Byte) (s : State) : (s.rxqWrite a b).rxByte = s.rxByte := rfl
@[simp] theorem State.rxqWrite_txByte (a : Nat) (b : Byte) (s : State) : (s.rxqWrite a b).txByte = s.txByte := rfl
@[simp] theorem State.rxqWrite_status (a : Nat) (b : Byte) (s : State) : (s.rxqWrite a b).status = s.status := rfl
@[simp] theorem State.rxqWrite_command (a : Nat) (b : Byte) (s : State) : (s.rxqWrite a b).command = s.command := rfl
@[simp] theorem State.rxqWrite_control (a : Nat) (b : Byte) (s : State) : (s.rxqWrite a b).control = s.control := rfl
@[simp] theorem State.rxqWrite_countdown (a : Nat) (b : Byte) (s : State) : (s.rxqWrite a b).countdown = s.countdown := rfl
@[simp] theorem State.rxqWrite_nmiAsserted (a : Nat) (b : Byte) (s : State) : (s.rxqWrite a b).nmiAsserted = s.nmiAsserted := rfl
@[simp] theorem State.rxqWrite_nmiAssertTime (a : Nat) (b : Byte) (s : State) : (s.rxqWrite a b).nmiAssertTime = s.nmiAssertTime := rfl
@[simp] theorem State.rxqWrite_rxq (a : Nat) (b : Byte) (s : State) : (s.rxqWrite a b).rxq = s.rxq.write a b := rfl
@[simp] theorem State.rxqWrite_head (a : Nat) (b : Byte) (s : State) : (s.rxqWrite a b).head = s.head := rfl
@[simp] theorem State.rxqWrite_tail (a : Nat) (b : Byte) (s : State) : (s.rxqWrite a b).tail = s.tail := rfl
@[simp] theorem State.rxqWrite_line (a : Nat) (b : Byte) (s : State) : (s.rxqWrite a b).line = s.line := rfl
@[simp] theorem State.rxqWrite_offset (a : Nat) (b : Byte) (s : State) : (s.rxqWrite a b).offset = s.offset := rfl
@[simp] theorem State.rxqWrite_plusCount (a : Nat) (b : Byte) (s : State) : (s.rxqWrite a b).plusCount = s.plusCount := rfl
@[simp] theorem State.rxqWrite_lastTxTime (a : Nat) (b : Byte) (s : State) : (s.rxqWrite a b).lastTxTime = s.lastTxTime := rfl
@[simp] theorem State.rxqWrite_pollPhase (a : Nat) (b : Byte) (s : State) : (s.rxqWrite a b).pollPhase = s.pollPhase := rfl
@[simp] theorem State.rxqWrite_params (a : Nat) (b : Byte) (s : State) : (s.rxqWrite a b).params = s.params := rfl
@[simp] theorem State.rxqWrite_initialised (a : Nat) (b : Byte) (s : State) : (s.rxqWrite a b).initialised = s.initialised := rfl
@[simp] theorem State.rxqWrite_drawNo (a : Nat) (b : Byte) (s : State) : (s.rxqWrite a b).drawNo = s.drawNo := rfl
@[simp] theorem State.rxqWrite_dataOut (a : Nat) (b : Byte) (s : State) : (s.rxqWrite a b).dataOut = s.dataOut := rfl
@[simp] theorem State.rxqWrite_events (a : Nat) (b : Byte) (s : State) : (s.rxqWrite a b).events = s.events := rfl
@[simp] theorem State.rxqWrite_agent (a : Nat) (b : Byte) (s : State) : (s.rxqWrite a b).agent = s.agent := rfl
@[simp] theorem State.rxqWrite_inputs (a : Nat) (b : Byte) (s : State) : (s.rxqWrite a b).inputs = s.inputs := rfl
@[simp] theorem State.rxqWrite_schedule (a : Nat) (b : Byte) (s : State) : (s.rxqWrite a b).schedule = s.schedule := rfl

/-! ### lineWrite -/
@[simp] theorem State.lineWrite_rxByte (a : Nat) (b : Byte) (s : State) : (s.lineWrite a b).rxByte = s.rxByte := rfl
@[simp] theorem State.lineWrite_txByte (a : Nat) (b : Byte) (s : State) : (s.lineWrite a b).txByte = s.txByte := rfl
@[simp] theorem State.lineWrite_status (a : Nat) (b : Byte) (s : State) : (s.lineWrite a b).status = s.status := rfl
@[simp] theorem State.lineWrite_command (a : Nat) (b : Byte) (s : State) : (s.lineWrite a b).command = s.command := rfl
@[simp] theorem State.lineWrite_control (a : Nat) (b : Byte) (s : State) : (s.lineWrite a b).control = s.control := rfl
@[simp] theorem State.lineWrite_countdown (a : Nat) (b : Byte) (s : State) : (s.lineWrite a b).countdown = s.countdown := rfl
@[simp] theorem State.lineWrite_nmiAsserted (a : Nat) (b : Byte) (s : State) : (s.lineWrite a b).nmiAsserted = s.nmiAsserted := rfl
@[simp] theorem State.lineWrite_nmiAssertTime (a : Nat) (b : Byte) (s : State) : (s.lineWrite a b).nmiAssertTime = s.nmiAssertTime := rfl
@[simp] theorem State.lineWrite_rxq (a : Nat) (b : Byte) (s : State) : (s.lineWrite a b).rxq = s.rxq := rfl
@[simp] theorem State.lineWrite_head (a : Nat) (b : Byte) (s : State) : (s.lineWrite a b).head = s.head := rfl
@[simp] theorem State.lineWrite_tail (a : Nat) (b : Byte) (s : State) : (s.lineWrite a b).tail = s.tail := rfl
@[simp] theorem State.lineWrite_line (a : Nat) (b : Byte) (s : State) : (s.lineWrite a b).line = s.line.write a b := rfl
@[simp] theorem State.lineWrite_offset (a : Nat) (b : Byte) (s : State) : (s.lineWrite a b).offset = s.offset := rfl
@[simp] theorem State.lineWrite_plusCount (a : Nat) (b : Byte) (s : State) : (s.lineWrite a b).plusCount = s.plusCount := rfl
@[simp] theorem State.lineWrite_lastTxTime (a : Nat) (b : Byte) (s : State) : (s.lineWrite a b).lastTxTime = s.lastTxTime := rfl
@[simp] theorem State.lineWrite_pollPhase (a : Nat) (b : Byte) (s : State) : (s.lineWrite a b).pollPhase = s.pollPhase := rfl
@[simp] theorem State.lineWrite_params (a : Nat) (b : Byte) (s : State) : (s.lineWrite a b).params = s.params := rfl
@[simp] theorem State.lineWrite_initialised (a : Nat) (b : Byte) (s : State) : (s.lineWrite a b).initialised = s.initialised := rfl
@[simp] theorem State.lineWrite_drawNo (a : Nat) (b : Byte) (s : State) : (s.lineWrite a b).drawNo = s.drawNo := rfl
@[simp] theorem State.lineWrite_dataOut (a : Nat) (b : Byte) (s : State) : (s.lineWrite a b).dataOut = s.dataOut := rfl
@[simp] theorem State.lineWrite_events (a : Nat) (b : Byte) (s : State) : (s.lineWrite a b).events = s.events := rfl
@[simp] theorem State.lineWrite_agent (a : Nat) (b : Byte) (s : State) : (s.lineWrite a b).agent = s.agent := rfl
@[simp] theorem State.lineWrite_inputs (a : Nat) (b : Byte) (s : State) : (s.lineWrite a b).inputs = s.inputs := rfl
@[simp] theorem State.lineWrite_schedule (a : Nat) (b : Byte) (s : State) : (s.lineWrite a b).schedule = s.schedule := rfl

/-! ### readOut -/
@[simp] theorem State.readOut_rxByte (r : RegAddr) (s : State) : (s.readOut r).rxByte = s.rxByte := rfl
@[simp] theorem State.readOut_txByte (r : RegAddr) (s : State) : (s.readOut r).txByte = s.txByte := rfl
@[simp] theorem State.readOut_status (r : RegAddr) (s : State) : (s.readOut r).status = s.status := rfl
@[simp] theorem State.readOut_command (r : RegAddr) (s : State) : (s.readOut r).command = s.command := rfl
@[simp] theorem State.readOut_control (r : RegAddr) (s : State) : (s.readOut r).control = s.control := rfl
@[simp] theorem State.readOut_countdown (r : RegAddr) (s : State) : (s.readOut r).countdown = s.countdown := rfl
@[simp] theorem State.readOut_nmiAsserted (r : RegAddr) (s : State) : (s.readOut r).nmiAsserted = s.nmiAsserted := rfl
@[simp] theorem State.readOut_nmiAssertTime (r : RegAddr) (s : State) : (s.readOut r).nmiAssertTime = s.nmiAssertTime := rfl
@[simp] theorem State.readOut_rxq (r : RegAddr) (s : State) : (s.readOut r).rxq = s.rxq := rfl
@[simp] theorem State.readOut_head (r : RegAddr) (s : State) : (s.readOut r).head = s.head := rfl
@[simp] theorem State.readOut_tail (r : RegAddr) (s : State) : (s.readOut r).tail = s.tail := rfl
@[simp] theorem State.readOut_line (r : RegAddr) (s : State) : (s.readOut r).line = s.line := rfl
@[simp] theorem State.readOut_offset (r : RegAddr) (s : State) : (s.readOut r).offset = s.offset := rfl
@[simp] theorem State.readOut_plusCount (r : RegAddr) (s : State) : (s.readOut r).plusCount = s.plusCount := rfl
@[simp] theorem State.readOut_lastTxTime (r : RegAddr) (s : State) : (s.readOut r).lastTxTime = s.lastTxTime := rfl
@[simp] theorem State.readOut_pollPhase (r : RegAddr) (s : State) : (s.readOut r).pollPhase = s.pollPhase := rfl
@[simp] theorem State.readOut_params (r : RegAddr) (s : State) : (s.readOut r).params = s.params := rfl
@[simp] theorem State.readOut_initialised (r : RegAddr) (s : State) : (s.readOut r).initialised = s.initialised := rfl
@[simp] theorem State.readOut_drawNo (r : RegAddr) (s : State) : (s.readOut r).drawNo = s.drawNo := rfl
@[simp] theorem State.readOut_dataOut (r : RegAddr) (s : State) : (s.readOut r).dataOut = some (s.busValue r) := rfl
@[simp] theorem State.readOut_events (r : RegAddr) (s : State) : (s.readOut r).events = s.events := rfl
@[simp] theorem State.readOut_agent (r : RegAddr) (s : State) : (s.readOut r).agent = s.agent := rfl
@[simp] theorem State.readOut_inputs (r : RegAddr) (s : State) : (s.readOut r).inputs = s.inputs := rfl
@[simp] theorem State.readOut_schedule (r : RegAddr) (s : State) : (s.readOut r).schedule = s.schedule := rfl

/-! ### begin -/
@[simp] theorem State.begin_rxByte (o : Issue) (rest : List Issue) (s : State) : (s.begin o rest).rxByte = s.rxByte := rfl
@[simp] theorem State.begin_txByte (o : Issue) (rest : List Issue) (s : State) : (s.begin o rest).txByte = s.txByte := rfl
@[simp] theorem State.begin_status (o : Issue) (rest : List Issue) (s : State) : (s.begin o rest).status = s.status := rfl
@[simp] theorem State.begin_command (o : Issue) (rest : List Issue) (s : State) : (s.begin o rest).command = s.command := rfl
@[simp] theorem State.begin_control (o : Issue) (rest : List Issue) (s : State) : (s.begin o rest).control = s.control := rfl
@[simp] theorem State.begin_countdown (o : Issue) (rest : List Issue) (s : State) : (s.begin o rest).countdown = s.countdown := rfl
@[simp] theorem State.begin_nmiAsserted (o : Issue) (rest : List Issue) (s : State) : (s.begin o rest).nmiAsserted = s.nmiAsserted := rfl
@[simp] theorem State.begin_nmiAssertTime (o : Issue) (rest : List Issue) (s : State) : (s.begin o rest).nmiAssertTime = s.nmiAssertTime := rfl
@[simp] theorem State.begin_rxq (o : Issue) (rest : List Issue) (s : State) : (s.begin o rest).rxq = s.rxq := rfl
@[simp] theorem State.begin_head (o : Issue) (rest : List Issue) (s : State) : (s.begin o rest).head = s.head := rfl
@[simp] theorem State.begin_tail (o : Issue) (rest : List Issue) (s : State) : (s.begin o rest).tail = s.tail := rfl
@[simp] theorem State.begin_line (o : Issue) (rest : List Issue) (s : State) : (s.begin o rest).line = s.line := rfl
@[simp] theorem State.begin_offset (o : Issue) (rest : List Issue) (s : State) : (s.begin o rest).offset = s.offset := rfl
@[simp] theorem State.begin_plusCount (o : Issue) (rest : List Issue) (s : State) : (s.begin o rest).plusCount = s.plusCount := rfl
@[simp] theorem State.begin_lastTxTime (o : Issue) (rest : List Issue) (s : State) : (s.begin o rest).lastTxTime = s.lastTxTime := rfl
@[simp] theorem State.begin_pollPhase (o : Issue) (rest : List Issue) (s : State) : (s.begin o rest).pollPhase = s.pollPhase := rfl
@[simp] theorem State.begin_params (o : Issue) (rest : List Issue) (s : State) : (s.begin o rest).params = s.params := rfl
@[simp] theorem State.begin_initialised (o : Issue) (rest : List Issue) (s : State) : (s.begin o rest).initialised = s.initialised := rfl
@[simp] theorem State.begin_drawNo (o : Issue) (rest : List Issue) (s : State) : (s.begin o rest).drawNo = s.drawNo := rfl
@[simp] theorem State.begin_dataOut (o : Issue) (rest : List Issue) (s : State) : (s.begin o rest).dataOut = none := rfl
@[simp] theorem State.begin_events (o : Issue) (rest : List Issue) (s : State) : (s.begin o rest).events = s.events := rfl
@[simp] theorem State.begin_agent (o : Issue) (rest : List Issue) (s : State) : (s.begin o rest).agent = o.agent := rfl
@[simp] theorem State.begin_inputs (o : Issue) (rest : List Issue) (s : State) : (s.begin o rest).inputs = o.inputs := rfl
@[simp] theorem State.begin_schedule (o : Issue) (rest : List Issue) (s : State) : (s.begin o rest).schedule = rest := rfl

/-! ### consumed -/
@[simp] theorem State.consumed_rxByte (s : State) : s.consumed.rxByte = s.rxByte := rfl
@[simp] theorem State.consumed_txByte (s : State) : s.consumed.txByte = s.txByte := rfl
@[simp] theorem State.consumed_status (s : State) : s.consumed.status = putFlag .txEmpty true s.status := rfl
@[simp] theorem State.consumed_command (s : State) : s.consumed.command = s.command := rfl
@[simp] theorem State.consumed_control (s : State) : s.consumed.control = s.control := rfl
@[simp] theorem State.consumed_countdown (s : State) : s.consumed.countdown = s.countdown := rfl
@[simp] theorem State.consumed_nmiAsserted (s : State) : s.consumed.nmiAsserted = s.nmiAsserted := rfl
@[simp] theorem State.consumed_nmiAssertTime (s : State) : s.consumed.nmiAssertTime = s.nmiAssertTime := rfl
@[simp] theorem State.consumed_rxq (s : State) : s.consumed.rxq = s.rxq := rfl
@[simp] theorem State.consumed_head (s : State) : s.consumed.head = s.head := rfl
@[simp] theorem State.consumed_tail (s : State) : s.consumed.tail = s.tail := rfl
@[simp] theorem State.consumed_line (s : State) : s.consumed.line = s.line := rfl
@[simp] theorem State.consumed_offset (s : State) : s.consumed.offset = s.offset := rfl
@[simp] theorem State.consumed_plusCount (s : State) : s.consumed.plusCount = s.plusCount := rfl
@[simp] theorem State.consumed_lastTxTime (s : State) : s.consumed.lastTxTime = s.inputs.nowMs := rfl
@[simp] theorem State.consumed_pollPhase (s : State) : s.consumed.pollPhase = .idle := rfl
@[simp] theorem State.consumed_params (s : State) : s.consumed.params = s.params := rfl
@[simp] theorem State.consumed_initialised (s : State) : s.consumed.initialised = s.initialised := rfl
@[simp] theorem State.consumed_drawNo (s : State) : s.consumed.drawNo = s.drawNo := rfl
@[simp] theorem State.consumed_dataOut (s : State) : s.consumed.dataOut = s.dataOut := rfl
@[simp] theorem State.consumed_events (s : State) : s.consumed.events = s.events := rfl
@[simp] theorem State.consumed_agent (s : State) : s.consumed.agent = s.agent := rfl
@[simp] theorem State.consumed_inputs (s : State) : s.consumed.inputs = s.inputs := rfl
@[simp] theorem State.consumed_schedule (s : State) : s.consumed.schedule = s.schedule := rfl

/-! ### moveTail -/
@[simp] theorem State.moveTail_rxByte (s : State) : s.moveTail.rxByte = s.rxByte := rfl
@[simp] theorem State.moveTail_txByte (s : State) : s.moveTail.txByte = s.txByte := rfl
@[simp] theorem State.moveTail_status (s : State) : s.moveTail.status = s.status := rfl
@[simp] theorem State.moveTail_command (s : State) : s.moveTail.command = s.command := rfl
@[simp] theorem State.moveTail_control (s : State) : s.moveTail.control = s.control := rfl
@[simp] theorem State.moveTail_countdown (s : State) : s.moveTail.countdown = s.countdown := rfl
@[simp] theorem State.moveTail_nmiAsserted (s : State) : s.moveTail.nmiAsserted = s.nmiAsserted := rfl
@[simp] theorem State.moveTail_nmiAssertTime (s : State) : s.moveTail.nmiAssertTime = s.nmiAssertTime := rfl
@[simp] theorem State.moveTail_rxq (s : State) : s.moveTail.rxq = s.rxq := rfl
@[simp] theorem State.moveTail_head (s : State) : s.moveTail.head = s.head := rfl
@[simp] theorem State.moveTail_tail (s : State) : s.moveTail.tail = s.nextSlot s.tail := rfl
@[simp] theorem State.moveTail_line (s : State) : s.moveTail.line = s.line := rfl
@[simp] theorem State.moveTail_offset (s : State) : s.moveTail.offset = s.offset := rfl
@[simp] theorem State.moveTail_plusCount (s : State) : s.moveTail.plusCount = s.plusCount := rfl
@[simp] theorem State.moveTail_lastTxTime (s : State) : s.moveTail.lastTxTime = s.lastTxTime := rfl
@[simp] theorem State.moveTail_pollPhase (s : State) : s.moveTail.pollPhase = s.pollPhase := rfl
@[simp] theorem State.moveTail_params (s : State) : s.moveTail.params = s.params := rfl
@[simp] theorem State.moveTail_initialised (s : State) : s.moveTail.initialised = s.initialised := rfl
@[simp] theorem State.moveTail_drawNo (s : State) : s.moveTail.drawNo = s.drawNo := rfl
@[simp] theorem State.moveTail_dataOut (s : State) : s.moveTail.dataOut = s.dataOut := rfl
@[simp] theorem State.moveTail_events (s : State) : s.moveTail.events = s.events := rfl
@[simp] theorem State.moveTail_agent (s : State) : s.moveTail.agent = s.agent := rfl
@[simp] theorem State.moveTail_inputs (s : State) : s.moveTail.inputs = s.inputs := rfl
@[simp] theorem State.moveTail_schedule (s : State) : s.moveTail.schedule = s.schedule := rfl

/-! ### clearPlus -/
@[simp] theorem State.clearPlus_rxByte (s : State) : s.clearPlus.rxByte = s.rxByte := rfl
@[simp] theorem State.clearPlus_txByte (s : State) : s.clearPlus.txByte = s.txByte := rfl
@[simp] theorem State.clearPlus_status (s : State) : s.clearPlus.status = s.status := rfl
@[simp] theorem State.clearPlus_command (s : State) : s.clearPlus.command = s.command := rfl
@[simp] theorem State.clearPlus_control (s : State) : s.clearPlus.control = s.control := rfl
@[simp] theorem State.clearPlus_countdown (s : State) : s.clearPlus.countdown = s.countdown := rfl
@[simp] theorem State.clearPlus_nmiAsserted (s : State) : s.clearPlus.nmiAsserted = s.nmiAsserted := rfl
@[simp] theorem State.clearPlus_nmiAssertTime (s : State) : s.clearPlus.nmiAssertTime = s.nmiAssertTime := rfl
@[simp] theorem State.clearPlus_rxq (s : State) : s.clearPlus.rxq = s.rxq := rfl
@[simp] theorem State.clearPlus_head (s : State) : s.clearPlus.head = s.head := rfl
@[simp] theorem State.clearPlus_tail (s : State) : s.clearPlus.tail = s.tail := rfl
@[simp] theorem State.clearPlus_line (s : State) : s.clearPlus.line = s.line := rfl
@[simp] theorem State.clearPlus_offset (s : State) : s.clearPlus.offset = s.offset := rfl
@[simp] theorem State.clearPlus_plusCount (s : State) : s.clearPlus.plusCount = 0 := rfl
@[simp] theorem State.clearPlus_lastTxTime (s : State) : s.clearPlus.lastTxTime = s.lastTxTime := rfl
@[simp] theorem State.clearPlus_pollPhase (s : State) : s.clearPlus.pollPhase = s.pollPhase := rfl
@[simp] theorem State.clearPlus_params (s : State) : s.clearPlus.params = s.params := rfl
@[simp] theorem State.clearPlus_initialised (s : State) : s.clearPlus.initialised = s.initialised := rfl
@[simp] theorem State.clearPlus_drawNo (s : State) : s.clearPlus.drawNo = s.drawNo := rfl
@[simp] theorem State.clearPlus_dataOut (s : State) : s.clearPlus.dataOut = s.dataOut := rfl
@[simp] theorem State.clearPlus_events (s : State) : s.clearPlus.events = s.events := rfl
@[simp] theorem State.clearPlus_agent (s : State) : s.clearPlus.agent = s.agent := rfl
@[simp] theorem State.clearPlus_inputs (s : State) : s.clearPlus.inputs = s.inputs := rfl
@[simp] theorem State.clearPlus_schedule (s : State) : s.clearPlus.schedule = s.schedule := rfl

/-! ### dispatchLine -/
@[simp] theorem State.dispatchLine_rxByte (n : Nat) (s : State) : (s.dispatchLine n).rxByte = s.rxByte := rfl
@[simp] theorem State.dispatchLine_txByte (n : Nat) (s : State) : (s.dispatchLine n).txByte = s.txByte := rfl
@[simp] theorem State.dispatchLine_status (n : Nat) (s : State) : (s.dispatchLine n).status = s.status := rfl
@[simp] theorem State.dispatchLine_command (n : Nat) (s : State) : (s.dispatchLine n).command = s.command := rfl
@[simp] theorem State.dispatchLine_control (n : Nat) (s : State) : (s.dispatchLine n).control = s.control := rfl
@[simp] theorem State.dispatchLine_countdown (n : Nat) (s : State) : (s.dispatchLine n).countdown = s.countdown := rfl
@[simp] theorem State.dispatchLine_nmiAsserted (n : Nat) (s : State) : (s.dispatchLine n).nmiAsserted = s.nmiAsserted := rfl
@[simp] theorem State.dispatchLine_nmiAssertTime (n : Nat) (s : State) : (s.dispatchLine n).nmiAssertTime = s.nmiAssertTime := rfl
@[simp] theorem State.dispatchLine_rxq (n : Nat) (s : State) : (s.dispatchLine n).rxq = s.rxq := rfl
@[simp] theorem State.dispatchLine_head (n : Nat) (s : State) : (s.dispatchLine n).head = s.head := rfl
@[simp] theorem State.dispatchLine_tail (n : Nat) (s : State) : (s.dispatchLine n).tail = s.tail := rfl
@[simp] theorem State.dispatchLine_line (n : Nat) (s : State) : (s.dispatchLine n).line = s.line := rfl
@[simp] theorem State.dispatchLine_offset (n : Nat) (s : State) : (s.dispatchLine n).offset = 0 := rfl
@[simp] theorem State.dispatchLine_plusCount (n : Nat) (s : State) : (s.dispatchLine n).plusCount = s.plusCount := rfl
@[simp] theorem State.dispatchLine_lastTxTime (n : Nat) (s : State) : (s.dispatchLine n).lastTxTime = s.lastTxTime := rfl
@[simp] theorem State.dispatchLine_pollPhase (n : Nat) (s : State) : (s.dispatchLine n).pollPhase = s.pollPhase := rfl
@[simp] theorem State.dispatchLine_params (n : Nat) (s : State) : (s.dispatchLine n).params = s.params := rfl
@[simp] theorem State.dispatchLine_initialised (n : Nat) (s : State) : (s.dispatchLine n).initialised = s.initialised := rfl
@[simp] theorem State.dispatchLine_drawNo (n : Nat) (s : State) : (s.dispatchLine n).drawNo = s.drawNo := rfl
@[simp] theorem State.dispatchLine_dataOut (n : Nat) (s : State) : (s.dispatchLine n).dataOut = s.dataOut := rfl
@[simp] theorem State.dispatchLine_events (n : Nat) (s : State) : (s.dispatchLine n).events = s.events ++ [.lineDispatch (lineDest s.inputs.mode) (s.linePayload n)] := rfl
@[simp] theorem State.dispatchLine_agent (n : Nat) (s : State) : (s.dispatchLine n).agent = s.agent := rfl
@[simp] theorem State.dispatchLine_inputs (n : Nat) (s : State) : (s.dispatchLine n).inputs = s.inputs := rfl
@[simp] theorem State.dispatchLine_schedule (n : Nat) (s : State) : (s.dispatchLine n).schedule = s.schedule := rfl

/-! ### enterPhase -/
@[simp] theorem State.enterPhase_rxByte (p : Phase) (s : State) : (s.enterPhase p).rxByte = s.rxByte := rfl
@[simp] theorem State.enterPhase_txByte (p : Phase) (s : State) : (s.enterPhase p).txByte = s.txByte := rfl
@[simp] theorem State.enterPhase_status (p : Phase) (s : State) : (s.enterPhase p).status = s.status := rfl
@[simp] theorem State.enterPhase_command (p : Phase) (s : State) : (s.enterPhase p).command = s.command := rfl
@[simp] theorem State.enterPhase_control (p : Phase) (s : State) : (s.enterPhase p).control = s.control := rfl
@[simp] theorem State.enterPhase_countdown (p : Phase) (s : State) : (s.enterPhase p).countdown = s.countdown := rfl
@[simp] theorem State.enterPhase_nmiAsserted (p : Phase) (s : State) : (s.enterPhase p).nmiAsserted = s.nmiAsserted := rfl
@[simp] theorem State.enterPhase_nmiAssertTime (p : Phase) (s : State) : (s.enterPhase p).nmiAssertTime = s.nmiAssertTime := rfl
@[simp] theorem State.enterPhase_rxq (p : Phase) (s : State) : (s.enterPhase p).rxq = s.rxq := rfl
@[simp] theorem State.enterPhase_head (p : Phase) (s : State) : (s.enterPhase p).head = s.head := rfl
@[simp] theorem State.enterPhase_tail (p : Phase) (s : State) : (s.enterPhase p).tail = s.tail := rfl
@[simp] theorem State.enterPhase_line (p : Phase) (s : State) : (s.enterPhase p).line = s.line := rfl
@[simp] theorem State.enterPhase_offset (p : Phase) (s : State) : (s.enterPhase p).offset = s.offset := rfl
@[simp] theorem State.enterPhase_plusCount (p : Phase) (s : State) : (s.enterPhase p).plusCount = s.plusCount := rfl
@[simp] theorem State.enterPhase_lastTxTime (p : Phase) (s : State) : (s.enterPhase p).lastTxTime = s.lastTxTime := rfl
@[simp] theorem State.enterPhase_pollPhase (p : Phase) (s : State) : (s.enterPhase p).pollPhase = p := rfl
@[simp] theorem State.enterPhase_params (p : Phase) (s : State) : (s.enterPhase p).params = s.params := rfl
@[simp] theorem State.enterPhase_initialised (p : Phase) (s : State) : (s.enterPhase p).initialised = s.initialised := rfl
@[simp] theorem State.enterPhase_drawNo (p : Phase) (s : State) : (s.enterPhase p).drawNo = s.drawNo := rfl
@[simp] theorem State.enterPhase_dataOut (p : Phase) (s : State) : (s.enterPhase p).dataOut = s.dataOut := rfl
@[simp] theorem State.enterPhase_events (p : Phase) (s : State) : (s.enterPhase p).events = s.events := rfl
@[simp] theorem State.enterPhase_agent (p : Phase) (s : State) : (s.enterPhase p).agent = s.agent := rfl
@[simp] theorem State.enterPhase_inputs (p : Phase) (s : State) : (s.enterPhase p).inputs = s.inputs := rfl
@[simp] theorem State.enterPhase_schedule (p : Phase) (s : State) : (s.enterPhase p).schedule = s.schedule := rfl

/-! ### escCount -/
@[simp] theorem State.escCount_rxByte (b : Byte) (s : State) : (s.escCount b).rxByte = s.rxByte := rfl
@[simp] theorem State.escCount_txByte (b : Byte) (s : State) : (s.escCount b).txByte = s.txByte := rfl
@[simp] theorem State.escCount_status (b : Byte) (s : State) : (s.escCount b).status = s.status := rfl
@[simp] theorem State.escCount_command (b : Byte) (s : State) : (s.escCount b).command = s.command := rfl
@[simp] theorem State.escCount_control (b : Byte) (s : State) : (s.escCount b).control = s.control := rfl
@[simp] theorem State.escCount_countdown (b : Byte) (s : State) : (s.escCount b).countdown = s.countdown := rfl
@[simp] theorem State.escCount_nmiAsserted (b : Byte) (s : State) : (s.escCount b).nmiAsserted = s.nmiAsserted := rfl
@[simp] theorem State.escCount_nmiAssertTime (b : Byte) (s : State) : (s.escCount b).nmiAssertTime = s.nmiAssertTime := rfl
@[simp] theorem State.escCount_rxq (b : Byte) (s : State) : (s.escCount b).rxq = s.rxq := rfl
@[simp] theorem State.escCount_head (b : Byte) (s : State) : (s.escCount b).head = s.head := rfl
@[simp] theorem State.escCount_tail (b : Byte) (s : State) : (s.escCount b).tail = s.tail := rfl
@[simp] theorem State.escCount_line (b : Byte) (s : State) : (s.escCount b).line = s.line := rfl
@[simp] theorem State.escCount_offset (b : Byte) (s : State) : (s.escCount b).offset = s.offset := rfl
@[simp] theorem State.escCount_plusCount (b : Byte) (s : State) : (s.escCount b).plusCount = s.plusCountAfter b := rfl
@[simp] theorem State.escCount_lastTxTime (b : Byte) (s : State) : (s.escCount b).lastTxTime = s.lastTxTime := rfl
@[simp] theorem State.escCount_pollPhase (b : Byte) (s : State) : (s.escCount b).pollPhase = s.pollPhase := rfl
@[simp] theorem State.escCount_params (b : Byte) (s : State) : (s.escCount b).params = s.params := rfl
@[simp] theorem State.escCount_initialised (b : Byte) (s : State) : (s.escCount b).initialised = s.initialised := rfl
@[simp] theorem State.escCount_drawNo (b : Byte) (s : State) : (s.escCount b).drawNo = s.drawNo := rfl
@[simp] theorem State.escCount_dataOut (b : Byte) (s : State) : (s.escCount b).dataOut = s.dataOut := rfl
@[simp] theorem State.escCount_events (b : Byte) (s : State) : (s.escCount b).events = s.events := rfl
@[simp] theorem State.escCount_agent (b : Byte) (s : State) : (s.escCount b).agent = s.agent := rfl
@[simp] theorem State.escCount_inputs (b : Byte) (s : State) : (s.escCount b).inputs = s.inputs := rfl
@[simp] theorem State.escCount_schedule (b : Byte) (s : State) : (s.escCount b).schedule = s.schedule := rfl

end Sys2Proof.Machine
end

