-- ==== Sys2Proof/Laws/Flags.lean ====
section
/-! SUPPORT. Reading and writing the fields of the status byte. -/

namespace Sys2Proof.Machine

/-- No two fields share a position (R14). -/
theorem Flag.pos_inj (f g : Flag) (h : f.pos = g.pos) : f = g := by
  revert h; cases f <;> cases g <;> decide

theorem Flag.pos_lt (f : Flag) : f.pos < 8 := by cases f <;> decide

/-- A field reads as written, and every other field as before. -/
@[simp] theorem getFlag_putFlag (f g : Flag) (v : Bool) (st : Byte) :
    getFlag g (putFlag f v st) = if g = f then v else getFlag g st := by
  have hg := g.pos_lt
  have hf := f.pos_lt
  by_cases h : g = f
  · subst h
    cases v <;> simp [getFlag, putFlag, hg]
  · have hne : g.pos ≠ f.pos := fun e => h (Flag.pos_inj g f e)
    have hbit : (1#8 <<< f.pos).getLsbD g.pos = false := by
      simp only [BitVec.getLsbD_shiftLeft, BitVec.getLsbD_one]
      by_cases hlt : g.pos < f.pos
      · simp [hlt]
      · have : g.pos - f.pos ≠ 0 := by omega
        simp [this]
    cases v <;> simp only [getFlag, putFlag, h, if_false, if_true, Bool.false_eq_true, BitVec.getLsbD_or,
      BitVec.getLsbD_and, BitVec.getLsbD_not, hbit, hg] <;> simp

@[simp] theorem State.flag_eq (s : State) (f : Flag) : s.flag f = getFlag f s.status := rfl

/-- What clears both receive flags: bits 7 and 3 (R14, R15). -/
theorem putRxFlags_false (st : Byte) :
    putFlag .interruptPending false (putFlag .rxFull false st) = st &&& 0x77#8 := by
  simp only [putFlag, Flag.pos, Bool.false_eq_true, if_false, BitVec.and_assoc]
  congr 1

/-- What sets both receive flags: bits 7 and 3 (R14, R15). -/
theorem putRxFlags_true (st : Byte) :
    putFlag .interruptPending true (putFlag .rxFull true st) = st ||| 0x88#8 := by
  simp only [putFlag, Flag.pos, if_true, BitVec.or_assoc]
  congr 1

/-- What clears txEmpty: bit 4 (R14). -/
theorem putTxEmpty_false (st : Byte) : putFlag .txEmpty false st = st &&& 0xEF#8 := rfl

/-- What sets txEmpty: bit 4 (R14). -/
theorem putTxEmpty_true (st : Byte) : putFlag .txEmpty true st = st ||| 0x10#8 := rfl

/-- A status byte is its eight fields. -/
theorem status_ext (a b : Byte) (h : ∀ f, getFlag f a = getFlag f b) : a = b := by
  apply BitVec.eq_of_getLsbD_eq
  intro i hi
  have : i = 0 ∨ i = 1 ∨ i = 2 ∨ i = 3 ∨ i = 4 ∨ i = 5 ∨ i = 6 ∨ i = 7 := by omega
  rcases this with rfl | rfl | rfl | rfl | rfl | rfl | rfl | rfl
  · exact h .parityError
  · exact h .framingError
  · exact h .overrunError
  · exact h .rxFull
  · exact h .txEmpty
  · exact h .carrierDetect
  · exact h .dataSetReady
  · exact h .interruptPending

/-- Each field of the status byte after INIT (R36). -/
@[simp] theorem getFlag_resetStatus (f : Flag) (p : Params) :
    getFlag f (resetStatus p) =
      match f with
      | .txEmpty => true
      | .dataSetReady => p.dsrReset
      | .carrierDetect => p.dcdReset
      | .interruptPending => false
      | .rxFull => false
      | .overrunError => false
      | .framingError => false
      | .parityError => false := by
  unfold resetStatus getFlag
  cases p.dsrReset <;> cases p.dcdReset <;> cases f <;> decide

/-- INIT writes all eight fields: the status byte is that of R36 whatever it was. -/
@[simp] theorem State.initialise_status (s : State) : s.initialise.status = resetStatus s.params := by
  apply status_ext
  intro f
  unfold State.initialise
  cases f <;> simp

end Sys2Proof.Machine
end

