-- ==== Sys2Proof/Laws/Issue.lean ====
section
/-! SUPPORT. What issuing an operation can do, said once: it is refused for one of the reasons of R43, R66, R117, R164 and
R181, or its effect happens whole. Every meaning is an issue of its effect. -/

namespace Sys2Proof.Machine

/-- An operation goes through exactly when nothing refuses it, and then its effect is the next state. -/
theorem issue_eq_next {i : Instr} {f : State → State} {s t : State} :
    issue i f s = .next t ↔ refusalOf i s = none ∧ t = f s := by
  unfold issue
  cases h : refusalOf i s with
  | none => simp [eq_comm]
  | some r => simp

/-- An operation that nothing refuses has its effect. -/
theorem issue_of_allowed {i : Instr} {s : State} (h : refusalOf i s = none) (f : State → State) :
    issue i f s = .next (f s) := issue_eq_next.mpr ⟨h, rfl⟩

/-- The conditions of an operation in one conjunction: its agent, INIT first, its phases, the page gate, the indices. -/
theorem refusalOf_eq_none {i : Instr} {s : State} :
    refusalOf i s = none ↔
      s.agent = agentOf i ∧ (s.initialised = true ∨ s.agent = .init) ∧ phaseAllows s.pollPhase i = true ∧
        pageAllows s.pollPhase s.inputs.pagePaused i = true ∧ (usesIndices i = true → s.indicesInRange) := by
  unfold refusalOf
  by_cases h1 : s.agent = agentOf i
  · by_cases h2 : s.initialised = false ∧ s.agent ≠ .init
    · obtain ⟨h2a, h2b⟩ := h2
      simp_all
    · have h2' : s.initialised = true ∨ s.agent = .init := by
        by_cases hi : s.initialised = true
        · exact .inl hi
        · exact .inr (by_contra fun hne => h2 ⟨by simpa using hi, hne⟩)
      rw [if_neg (not_not.mpr h1), if_neg h2, eq_true h1, eq_true h2']
      cases phaseAllows s.pollPhase i <;> cases pageAllows s.pollPhase s.inputs.pagePaused i <;> simp
  · simp [h1]

/-- The effect of each operation, once it may run. -/
def effectOf : Instr → State → State
  | .rdData => fun s => { (s.readOut .data).withdraw with countdown := s.params.rxGapCycles }
  | .rdStatus => State.readOut .status
  | .rdCommand => State.readOut .command
  | .rdControl => State.readOut .control
  | .wrData d => fun s => { s.setFlag .txEmpty false with txByte := d }
  | .wrStatus _ => fun s => { s with command := s.params.cmdDefault }
  | .wrCommand d => fun s => { s with command := d }
  | .wrControl d => fun s => { s with control := d }
  | .tick => State.countDown
  | .rxqPut d => State.rxqPut d
  | .rxqClear => fun s => { s with head := 0, tail := 0 }
  | .rxService => State.serviceRx
  | .rxFlush => State.startFlush
  | .nmiTimeoutChk => State.checkTimeout
  | .txService => State.serviceTx
  | .escChk => State.checkEscape
  | .init => State.initialise

/-- Every meaning issues its effect. -/
theorem exec_eq_issue (i : Instr) (s : State) : exec i s = issue i (effectOf i) s := by cases i <;> rfl

/-- What a completed operation can be. -/
theorem exec_eq_next {i : Instr} {s t : State} :
    exec i s = .next t ↔ refusalOf i s = none ∧ t = effectOf i s := by rw [exec_eq_issue, issue_eq_next]

/-- A step runs the next operation, waits, or is refused: what a step that goes on can be. -/
theorem step_eq_next {s t : State} (h : step s = .next t) :
    (s.schedule = [] ∧ t = s) ∨
      ∃ o rest i, s.schedule = o :: rest ∧ decode o.word = .ok i ∧ exec i (s.begin o rest) = .next t := by
  unfold step fetch at h
  cases hs : s.schedule with
  | nil => exact .inl ⟨rfl, by simpa [hs, eq_comm] using h⟩
  | cons o rest =>
    refine .inr ⟨o, rest, ?_⟩
    rw [hs] at h
    cases hd : decode o.word with
    | ok i => exact ⟨i, rfl, rfl, by simpa [hd] using h⟩
    | error e => simp [hd] at h

end Sys2Proof.Machine
end

