-- ==== Sys2Proof/Laws/Effects.lean ====
section
/-! SUPPORT. What the effect of each operation, and each procedure it is made of, leaves in the state: once for each, all
fields together. The fields a line does not name are those its rule may write. -/

namespace Sys2Proof.Machine

/-- RxqPut writes the ring, the write index and the report port (R111). -/
@[simp] theorem State.rxqPut_keeps (d : Byte) (s : State) :
    (s.rxqPut d).rxByte = s.rxByte ∧ (s.rxqPut d).txByte = s.txByte ∧ (s.rxqPut d).status = s.status ∧
    (s.rxqPut d).command = s.command ∧ (s.rxqPut d).control = s.control ∧
    (s.rxqPut d).countdown = s.countdown ∧ (s.rxqPut d).nmiAsserted = s.nmiAsserted ∧
    (s.rxqPut d).nmiAssertTime = s.nmiAssertTime ∧ (s.rxqPut d).tail = s.tail ∧ (s.rxqPut d).line = s.line ∧
    (s.rxqPut d).offset = s.offset ∧ (s.rxqPut d).plusCount = s.plusCount ∧
    (s.rxqPut d).lastTxTime = s.lastTxTime ∧ (s.rxqPut d).pollPhase = s.pollPhase ∧
    (s.rxqPut d).params = s.params ∧ (s.rxqPut d).initialised = s.initialised ∧
    (s.rxqPut d).drawNo = s.drawNo ∧ (s.rxqPut d).dataOut = s.dataOut ∧ (s.rxqPut d).agent = s.agent ∧
    (s.rxqPut d).inputs = s.inputs ∧ (s.rxqPut d).schedule = s.schedule := by
  unfold State.rxqPut
  split <;> simp

/-- A dequeue moves the read index on, and writes what Deliver writes (R115, R118). -/
@[simp] theorem State.dequeue_keeps (s : State) :
    s.dequeue.txByte = s.txByte ∧ s.dequeue.command = s.command ∧ s.dequeue.control = s.control ∧
    s.dequeue.countdown = s.countdown ∧ s.dequeue.rxq = s.rxq ∧ s.dequeue.head = s.head ∧
    s.dequeue.tail = s.nextSlot s.tail ∧ s.dequeue.line = s.line ∧ s.dequeue.offset = s.offset ∧
    s.dequeue.plusCount = s.plusCount ∧ s.dequeue.lastTxTime = s.lastTxTime ∧
    s.dequeue.pollPhase = s.pollPhase ∧ s.dequeue.params = s.params ∧
    s.dequeue.initialised = s.initialised ∧ s.dequeue.drawNo = s.drawNo ∧ s.dequeue.dataOut = s.dataOut ∧
    s.dequeue.events = s.events ∧ s.dequeue.agent = s.agent ∧ s.dequeue.inputs = s.inputs ∧
    s.dequeue.schedule = s.schedule := by
  unfold State.dequeue
  split <;> simp

/-- The end of a flush writes the phase (R121). -/
@[simp] theorem State.endFlush_keeps (s : State) :
    s.endFlush.rxByte = s.rxByte ∧ s.endFlush.txByte = s.txByte ∧ s.endFlush.status = s.status ∧
    s.endFlush.command = s.command ∧ s.endFlush.control = s.control ∧ s.endFlush.countdown = s.countdown ∧
    s.endFlush.nmiAsserted = s.nmiAsserted ∧ s.endFlush.nmiAssertTime = s.nmiAssertTime ∧
    s.endFlush.rxq = s.rxq ∧ s.endFlush.head = s.head ∧ s.endFlush.tail = s.tail ∧
    s.endFlush.line = s.line ∧ s.endFlush.offset = s.offset ∧ s.endFlush.plusCount = s.plusCount ∧
    s.endFlush.lastTxTime = s.lastTxTime ∧ s.endFlush.params = s.params ∧
    s.endFlush.initialised = s.initialised ∧ s.endFlush.drawNo = s.drawNo ∧ s.endFlush.dataOut = s.dataOut ∧
    s.endFlush.events = s.events ∧ s.endFlush.agent = s.agent ∧ s.endFlush.inputs = s.inputs ∧
    s.endFlush.schedule = s.schedule := by
  unfold State.endFlush
  split <;> simp

/-- What RX_SERVICE may write (R164). -/
@[simp] theorem State.serviceRx_keeps (s : State) :
    s.serviceRx.txByte = s.txByte ∧ s.serviceRx.command = s.command ∧ s.serviceRx.control = s.control ∧
    s.serviceRx.countdown = s.countdown ∧ s.serviceRx.rxq = s.rxq ∧ s.serviceRx.head = s.head ∧
    s.serviceRx.line = s.line ∧ s.serviceRx.offset = s.offset ∧ s.serviceRx.plusCount = s.plusCount ∧
    s.serviceRx.lastTxTime = s.lastTxTime ∧ s.serviceRx.params = s.params ∧
    s.serviceRx.initialised = s.initialised ∧ s.serviceRx.drawNo = s.drawNo ∧
    s.serviceRx.dataOut = s.dataOut ∧ s.serviceRx.events = s.events ∧ s.serviceRx.agent = s.agent ∧
    s.serviceRx.inputs = s.inputs ∧ s.serviceRx.schedule = s.schedule := by
  unfold State.serviceRx
  split <;> simp

/-- RX_FLUSH writes the phase (R120). -/
@[simp] theorem State.startFlush_keeps (s : State) :
    s.startFlush.rxByte = s.rxByte ∧ s.startFlush.txByte = s.txByte ∧ s.startFlush.status = s.status ∧
    s.startFlush.command = s.command ∧ s.startFlush.control = s.control ∧
    s.startFlush.countdown = s.countdown ∧ s.startFlush.nmiAsserted = s.nmiAsserted ∧
    s.startFlush.nmiAssertTime = s.nmiAssertTime ∧ s.startFlush.rxq = s.rxq ∧ s.startFlush.head = s.head ∧
    s.startFlush.tail = s.tail ∧ s.startFlush.line = s.line ∧ s.startFlush.offset = s.offset ∧
    s.startFlush.plusCount = s.plusCount ∧ s.startFlush.lastTxTime = s.lastTxTime ∧
    s.startFlush.params = s.params ∧ s.startFlush.initialised = s.initialised ∧
    s.startFlush.drawNo = s.drawNo ∧ s.startFlush.dataOut = s.dataOut ∧ s.startFlush.events = s.events ∧
    s.startFlush.agent = s.agent ∧ s.startFlush.inputs = s.inputs ∧ s.startFlush.schedule = s.schedule := by
  unfold State.startFlush
  split <;> simp

/-- TICK writes the countdown (R100). -/
@[simp] theorem State.countDown_keeps (s : State) :
    s.countDown.rxByte = s.rxByte ∧ s.countDown.txByte = s.txByte ∧ s.countDown.status = s.status ∧
    s.countDown.command = s.command ∧ s.countDown.control = s.control ∧
    s.countDown.nmiAsserted = s.nmiAsserted ∧ s.countDown.nmiAssertTime = s.nmiAssertTime ∧
    s.countDown.rxq = s.rxq ∧ s.countDown.head = s.head ∧ s.countDown.tail = s.tail ∧
    s.countDown.line = s.line ∧ s.countDown.offset = s.offset ∧ s.countDown.plusCount = s.plusCount ∧
    s.countDown.lastTxTime = s.lastTxTime ∧ s.countDown.pollPhase = s.pollPhase ∧
    s.countDown.params = s.params ∧ s.countDown.initialised = s.initialised ∧
    s.countDown.drawNo = s.drawNo ∧ s.countDown.dataOut = s.dataOut ∧ s.countDown.events = s.events ∧
    s.countDown.agent = s.agent ∧ s.countDown.inputs = s.inputs ∧ s.countDown.schedule = s.schedule := by
  unfold State.countDown
  split <;> simp

/-- What NMI_TIMEOUT_CHK may write (R103). -/
@[simp] theorem State.checkTimeout_keeps (s : State) :
    s.checkTimeout.rxByte = s.rxByte ∧ s.checkTimeout.txByte = s.txByte ∧
    s.checkTimeout.command = s.command ∧ s.checkTimeout.control = s.control ∧
    s.checkTimeout.countdown = s.countdown ∧ s.checkTimeout.nmiAssertTime = s.nmiAssertTime ∧
    s.checkTimeout.rxq = s.rxq ∧ s.checkTimeout.head = s.head ∧ s.checkTimeout.tail = s.tail ∧
    s.checkTimeout.line = s.line ∧ s.checkTimeout.offset = s.offset ∧
    s.checkTimeout.plusCount = s.plusCount ∧ s.checkTimeout.lastTxTime = s.lastTxTime ∧
    s.checkTimeout.pollPhase = s.pollPhase ∧ s.checkTimeout.params = s.params ∧
    s.checkTimeout.initialised = s.initialised ∧ s.checkTimeout.drawNo = s.drawNo ∧
    s.checkTimeout.dataOut = s.dataOut ∧ s.checkTimeout.agent = s.agent ∧ s.checkTimeout.inputs = s.inputs ∧
    s.checkTimeout.schedule = s.schedule := by
  unfold State.checkTimeout
  split <;> simp

/-- What ESC_CHK may write (R141). -/
@[simp] theorem State.checkEscape_keeps (s : State) :
    s.checkEscape.rxByte = s.rxByte ∧ s.checkEscape.txByte = s.txByte ∧ s.checkEscape.status = s.status ∧
    s.checkEscape.command = s.command ∧ s.checkEscape.control = s.control ∧
    s.checkEscape.countdown = s.countdown ∧ s.checkEscape.nmiAsserted = s.nmiAsserted ∧
    s.checkEscape.nmiAssertTime = s.nmiAssertTime ∧ s.checkEscape.rxq = s.rxq ∧
    s.checkEscape.head = s.head ∧ s.checkEscape.tail = s.tail ∧ s.checkEscape.line = s.line ∧
    s.checkEscape.offset = s.offset ∧ s.checkEscape.lastTxTime = s.lastTxTime ∧
    s.checkEscape.pollPhase = s.pollPhase ∧ s.checkEscape.params = s.params ∧
    s.checkEscape.initialised = s.initialised ∧ s.checkEscape.drawNo = s.drawNo ∧
    s.checkEscape.dataOut = s.dataOut ∧ s.checkEscape.agent = s.agent ∧ s.checkEscape.inputs = s.inputs ∧
    s.checkEscape.schedule = s.schedule := by
  unfold State.checkEscape
  split <;> simp

/-- Typing a character writes the line and its index (R135). -/
@[simp] theorem State.typeChar_keeps (c : Byte) (s : State) :
    (s.typeChar c).rxByte = s.rxByte ∧ (s.typeChar c).txByte = s.txByte ∧ (s.typeChar c).status = s.status ∧
    (s.typeChar c).command = s.command ∧ (s.typeChar c).control = s.control ∧
    (s.typeChar c).countdown = s.countdown ∧ (s.typeChar c).nmiAsserted = s.nmiAsserted ∧
    (s.typeChar c).nmiAssertTime = s.nmiAssertTime ∧ (s.typeChar c).rxq = s.rxq ∧
    (s.typeChar c).head = s.head ∧ (s.typeChar c).tail = s.tail ∧ (s.typeChar c).plusCount = s.plusCount ∧
    (s.typeChar c).lastTxTime = s.lastTxTime ∧ (s.typeChar c).pollPhase = s.pollPhase ∧
    (s.typeChar c).params = s.params ∧ (s.typeChar c).initialised = s.initialised ∧
    (s.typeChar c).drawNo = s.drawNo ∧ (s.typeChar c).dataOut = s.dataOut ∧
    (s.typeChar c).events = s.events ∧ (s.typeChar c).agent = s.agent ∧ (s.typeChar c).inputs = s.inputs ∧
    (s.typeChar c).schedule = s.schedule := by
  unfold State.typeChar
  split_ifs <;> simp

/-- Closing a line stores the terminator, empties the buffer and emits (R135). -/
@[simp] theorem State.closeLine_keeps (c : Byte) (s : State) :
    (s.closeLine c).rxByte = s.rxByte ∧ (s.closeLine c).txByte = s.txByte ∧
    (s.closeLine c).status = s.status ∧ (s.closeLine c).command = s.command ∧
    (s.closeLine c).control = s.control ∧ (s.closeLine c).countdown = s.countdown ∧
    (s.closeLine c).nmiAsserted = s.nmiAsserted ∧ (s.closeLine c).nmiAssertTime = s.nmiAssertTime ∧
    (s.closeLine c).rxq = s.rxq ∧ (s.closeLine c).head = s.head ∧ (s.closeLine c).tail = s.tail ∧
    (s.closeLine c).line = s.line.write (s.offset - 1) 0 ∧ (s.closeLine c).offset = 0 ∧
    (s.closeLine c).plusCount = s.plusCount ∧ (s.closeLine c).lastTxTime = s.lastTxTime ∧
    (s.closeLine c).pollPhase = s.pollPhase ∧ (s.closeLine c).params = s.params ∧
    (s.closeLine c).initialised = s.initialised ∧ (s.closeLine c).drawNo = s.drawNo ∧
    (s.closeLine c).dataOut = s.dataOut ∧ (s.closeLine c).agent = s.agent ∧
    (s.closeLine c).inputs = s.inputs ∧ (s.closeLine c).schedule = s.schedule := by
  unfold State.closeLine State.reportLength
  split <;> simp

/-- A line that may close writes what closing it writes (R135). -/
@[simp] theorem State.closeIfDone_keeps (c : Byte) (s : State) :
    (s.closeIfDone c).rxByte = s.rxByte ∧ (s.closeIfDone c).txByte = s.txByte ∧
    (s.closeIfDone c).status = s.status ∧ (s.closeIfDone c).command = s.command ∧
    (s.closeIfDone c).control = s.control ∧ (s.closeIfDone c).countdown = s.countdown ∧
    (s.closeIfDone c).nmiAsserted = s.nmiAsserted ∧ (s.closeIfDone c).nmiAssertTime = s.nmiAssertTime ∧
    (s.closeIfDone c).rxq = s.rxq ∧ (s.closeIfDone c).head = s.head ∧ (s.closeIfDone c).tail = s.tail ∧
    (s.closeIfDone c).plusCount = s.plusCount ∧ (s.closeIfDone c).lastTxTime = s.lastTxTime ∧
    (s.closeIfDone c).pollPhase = s.pollPhase ∧ (s.closeIfDone c).params = s.params ∧
    (s.closeIfDone c).initialised = s.initialised ∧ (s.closeIfDone c).drawNo = s.drawNo ∧
    (s.closeIfDone c).dataOut = s.dataOut ∧ (s.closeIfDone c).agent = s.agent ∧
    (s.closeIfDone c).inputs = s.inputs ∧ (s.closeIfDone c).schedule = s.schedule := by
  unfold State.closeIfDone
  split <;> simp

/-- What Accumulate writes beside the line (R135). -/
@[simp] theorem State.accumulate_keeps (b : Byte) (s : State) :
    (s.accumulate b).rxByte = s.rxByte ∧ (s.accumulate b).txByte = s.txByte ∧
    (s.accumulate b).status = putFlag .txEmpty true s.status ∧ (s.accumulate b).command = s.command ∧
    (s.accumulate b).control = s.control ∧ (s.accumulate b).countdown = s.countdown ∧
    (s.accumulate b).nmiAsserted = s.nmiAsserted ∧ (s.accumulate b).nmiAssertTime = s.nmiAssertTime ∧
    (s.accumulate b).rxq = s.rxq ∧ (s.accumulate b).head = s.head ∧ (s.accumulate b).tail = s.tail ∧
    (s.accumulate b).plusCount = 0 ∧ (s.accumulate b).lastTxTime = s.inputs.nowMs ∧
    (s.accumulate b).pollPhase = .idle ∧ (s.accumulate b).params = s.params ∧
    (s.accumulate b).initialised = s.initialised ∧ (s.accumulate b).drawNo = s.drawNo ∧
    (s.accumulate b).dataOut = s.dataOut ∧ (s.accumulate b).agent = s.agent ∧
    (s.accumulate b).inputs = s.inputs ∧ (s.accumulate b).schedule = s.schedule := by
  simp [State.accumulate]

/-- What OnlineRelay writes (R131). -/
@[simp] theorem State.onlineRelay_keeps (b : Byte) (s : State) :
    (s.onlineRelay b).rxByte = s.rxByte ∧ (s.onlineRelay b).txByte = s.txByte ∧
    (s.onlineRelay b).status = putFlag .txEmpty true s.status ∧ (s.onlineRelay b).command = s.command ∧
    (s.onlineRelay b).control = s.control ∧ (s.onlineRelay b).countdown = s.countdown ∧
    (s.onlineRelay b).nmiAsserted = s.nmiAsserted ∧ (s.onlineRelay b).nmiAssertTime = s.nmiAssertTime ∧
    (s.onlineRelay b).rxq = s.rxq ∧ (s.onlineRelay b).head = s.head ∧ (s.onlineRelay b).tail = s.tail ∧
    (s.onlineRelay b).line = s.line ∧ (s.onlineRelay b).offset = s.offset ∧
    (s.onlineRelay b).lastTxTime = s.inputs.nowMs ∧ (s.onlineRelay b).pollPhase = .idle ∧
    (s.onlineRelay b).params = s.params ∧ (s.onlineRelay b).initialised = s.initialised ∧
    (s.onlineRelay b).drawNo = s.drawNo ∧ (s.onlineRelay b).dataOut = s.dataOut ∧
    (s.onlineRelay b).events = s.events ++ [.transportWrite b] ∧ (s.onlineRelay b).agent = s.agent ∧
    (s.onlineRelay b).inputs = s.inputs ∧ (s.onlineRelay b).schedule = s.schedule := by
  simp [State.onlineRelay]

/-- What no branch of TX_SERVICE writes (R164). -/
@[simp] theorem State.routeTx_keeps (b : Byte) (s : State) :
    (s.routeTx b).txByte = s.txByte ∧ (s.routeTx b).command = s.command ∧
    (s.routeTx b).control = s.control ∧ (s.routeTx b).countdown = s.countdown ∧
    (s.routeTx b).tail = s.tail ∧ (s.routeTx b).params = s.params ∧
    (s.routeTx b).initialised = s.initialised ∧ (s.routeTx b).drawNo = s.drawNo ∧
    (s.routeTx b).dataOut = s.dataOut ∧ (s.routeTx b).agent = s.agent ∧ (s.routeTx b).inputs = s.inputs ∧
    (s.routeTx b).schedule = s.schedule := by
  unfold State.routeTx State.offlineEcho State.browserEcho
  split_ifs <;> simp

/-- What TX_SERVICE may not write (R164). -/
@[simp] theorem State.serviceTx_keeps (s : State) :
    s.serviceTx.txByte = s.txByte ∧ s.serviceTx.command = s.command ∧ s.serviceTx.control = s.control ∧
    s.serviceTx.countdown = s.countdown ∧ s.serviceTx.tail = s.tail ∧ s.serviceTx.params = s.params ∧
    s.serviceTx.initialised = s.initialised ∧ s.serviceTx.drawNo = s.drawNo ∧
    s.serviceTx.dataOut = s.dataOut ∧ s.serviceTx.agent = s.agent ∧ s.serviceTx.inputs = s.inputs ∧
    s.serviceTx.schedule = s.schedule := by
  unfold State.serviceTx
  split <;> simp

/-- What a completed operation leaves alone whatever it is: the instance, its inputs and agent, and the schedule. -/
theorem effectOf_keeps (i : Instr) (s : State) :
    (effectOf i s).params = s.params ∧ (effectOf i s).inputs = s.inputs ∧ (effectOf i s).agent = s.agent ∧
    (effectOf i s).schedule = s.schedule := by
  cases i <;> simp [effectOf, State.initialise]

end Sys2Proof.Machine
end

