-- ==== Sys2Proof/Laws/Memory.lean ====
section
/-! SUPPORT. The laws of memory: reading after writing, the canonical form, the bound of the space. -/

namespace Sys2Proof.Machine

/-- A byte reads as written, and every other address as before. -/
@[simp] theorem Memory.read_write (m : Memory) (a : Nat) (b : Byte) (x : Nat) :
    (m.write a b).read x = if a = x then some b else m.read x := by
  induction m with
  | nil => rfl
  | cons c m ih =>
    obtain ⟨k, v⟩ := c
    unfold Memory.write
    by_cases hlt : a < k
    · simp only [hlt, if_true]; rfl
    · by_cases heq : k = a
      · subst heq
        simp only [Nat.lt_irrefl, if_false, if_true, Memory.read]
        split <;> rfl
      · simp only [hlt, heq, if_false, Memory.read, ih]
        by_cases hk : k = x
        · have : a ≠ x := fun e => heq (hk.trans e.symm)
          simp [hk, this]
        · simp [hk]

/-- Every cell of a written memory is the new one or one that was there. -/
theorem Memory.mem_write {m : Memory} {a : Nat} {b : Byte} {c : Host.Cell} (h : c ∈ m.write a b) :
    c = (a, b) ∨ c ∈ m := by
  induction m with
  | nil => simpa [Memory.write] using h
  | cons d m ih =>
    obtain ⟨k, v⟩ := d
    unfold Memory.write at h
    split at h
    · simpa using h
    · split at h
      · rcases List.mem_cons.mp h with h | h
        · exact .inl h
        · exact .inr (List.mem_cons_of_mem _ h)
      · rcases List.mem_cons.mp h with h | h
        · exact .inr (h ▸ List.mem_cons_self)
        · exact (ih h).imp id (List.mem_cons_of_mem _)

/-- A write keeps the canonical form. -/
theorem Memory.wf_write {m : Memory} (h : m.wf) (a : Nat) (b : Byte) : Memory.wf (m.write a b) := by
  induction m with
  | nil => simp [Memory.write, Memory.wf]
  | cons c m ih =>
    obtain ⟨k, v⟩ := c
    obtain ⟨hk, hm⟩ := List.pairwise_cons.mp h
    unfold Memory.write
    split
    · rename_i hlt
      refine List.pairwise_cons.mpr ⟨fun d hd => ?_, h⟩
      rcases List.mem_cons.mp hd with rfl | hd
      · exact hlt
      · exact hlt.trans (hk d hd)
    · split
      · rename_i heq
        exact List.pairwise_cons.mpr ⟨fun d hd => heq ▸ hk d hd, hm⟩
      · rename_i hlt heq
        refine List.pairwise_cons.mpr ⟨fun d hd => ?_, ih hm⟩
        rcases Memory.mem_write hd with rfl | hd
        · exact lt_of_le_of_ne (not_lt.mp hlt) heq
        · exact hk d hd

/-- A write inside the space stays inside it. -/
theorem Memory.below_write {m : Memory} {n a : Nat} (h : m.below n) (ha : a < n) (b : Byte) :
    Memory.below (m.write a b) n := by
  intro c hc
  rcases Memory.mem_write hc with rfl | hc
  · exact ha
  · exact h c hc

theorem Memory.wf_nil : Memory.wf [] := List.Pairwise.nil

theorem Memory.below_nil (n : Nat) : Memory.below [] n := by intro c hc; cases hc

@[simp] theorem Memory.read_nil (a : Nat) : Memory.read [] a = none := rfl

/-- Below every listed address nothing is written. -/
theorem Memory.read_of_lt {m : Memory} {a : Nat} (h : ∀ c ∈ m, a < c.1) : m.read a = none := by
  induction m with
  | nil => rfl
  | cons c m ih =>
    obtain ⟨k, v⟩ := c
    have hk : a < k := h (k, v) List.mem_cons_self
    unfold Memory.read
    rw [if_neg (by omega)]
    exact ih fun c hc => h c (List.mem_cons_of_mem _ hc)

/-- In canonical form a memory is what its reads say: equal memories are equal lists. -/
theorem Memory.ext {m n : Memory} (hm : m.wf) (hn : n.wf) (h : ∀ a, m.read a = n.read a) : m = n := by
  induction m generalizing n with
  | nil =>
    cases n with
    | nil => rfl
    | cons d n =>
      obtain ⟨k, v⟩ := d
      have := h k
      simp [Memory.read] at this
  | cons c m ih =>
    obtain ⟨k, v⟩ := c
    cases n with
    | nil =>
      have := h k
      simp [Memory.read] at this
    | cons d n =>
      obtain ⟨l, w⟩ := d
      obtain ⟨hk, hm'⟩ := List.pairwise_cons.mp hm
      obtain ⟨hl, hn'⟩ := List.pairwise_cons.mp hn
      have hkl : k = l := by
        by_contra hne
        rcases Nat.lt_or_gt_of_ne hne with hlt | hlt
        · have hr := h k
          have hnone : Memory.read n k = none := Memory.read_of_lt fun c hc => hlt.trans (hl c hc)
          simp [Memory.read, Ne.symm hne, hnone] at hr
        · have hr := h l
          have hnone : Memory.read m l = none := Memory.read_of_lt fun c hc => hlt.trans (hk c hc)
          simp [Memory.read, hne, hnone] at hr
      subst hkl
      have hv : v = w := by simpa [Memory.read] using h k
      subst hv
      have : m = n := by
        refine ih hm' hn' fun a => ?_
        by_cases ha : k = a
        · subst ha
          rw [Memory.read_of_lt hk, Memory.read_of_lt hl]
        · simpa [Memory.read, ha] using h a
      rw [this]

end Sys2Proof.Machine
end

