-- ==== Sys2Proof/Laws/Ring.lean ====
section
/-! SUPPORT. The arithmetic of the ring's indices (R31, R112). -/

namespace Sys2Proof.Machine

/-- The number of queued bytes depends on the indices and the capacity alone (R31). -/
theorem used_congr {s t : State} (hh : t.head = s.head) (ht : t.tail = s.tail) (hp : t.params = s.params) :
    t.used = s.used := by
  unfold State.used
  rw [hh, ht, hp]

/-- The indices in range, one slot is always free (R31). -/
theorem State.used_lt {s : State} (hh : s.head < s.params.rxCapacity) (ht : s.tail < s.params.rxCapacity) :
    s.used < s.params.rxCapacity := by
  unfold State.used
  split <;> omega

/-- The write index lies `used` slots after the read index. -/
theorem State.slot_used {s : State} (hh : s.head < s.params.rxCapacity) (ht : s.tail < s.params.rxCapacity) :
    s.slot s.used = s.head := by
  unfold State.slot State.used
  split
  · rw [Nat.add_sub_cancel' ‹_›, Nat.mod_eq_of_lt hh]
  · have : s.tail + (s.head + s.params.rxCapacity - s.tail) = s.head + s.params.rxCapacity := by omega
    rw [this, Nat.add_mod_right, Nat.mod_eq_of_lt hh]

/-- The oldest byte is at the read index. -/
theorem State.slot_zero {s : State} (ht : s.tail < s.params.rxCapacity) : s.slot 0 = s.tail := by
  simp [State.slot, Nat.mod_eq_of_lt ht]

/-- No queued byte is at the write index. -/
theorem State.slot_ne_head {s : State} (hh : s.head < s.params.rxCapacity) (ht : s.tail < s.params.rxCapacity)
    {k : Nat} (hk : k < s.used) : s.slot k ≠ s.head := by
  have hu := State.used_lt hh ht
  unfold State.slot
  unfold State.used at hk hu
  intro h
  by_cases hw : s.tail + k < s.params.rxCapacity
  · rw [Nat.mod_eq_of_lt hw] at h
    split at hk <;> omega
  · rw [Nat.mod_eq_sub_mod (by omega), Nat.mod_eq_of_lt (by omega)] at h
    split at hk <;> omega

/-- The write index moved on, one more byte is queued, unless the ring was full. -/
theorem used_after_put {s t : State} (hh : s.head < s.params.rxCapacity) (ht : s.tail < s.params.rxCapacity)
    (hroom : s.used < s.params.rxCapacity - 1) (hp : t.params = s.params) (htail : t.tail = s.tail)
    (hhead : t.head = s.nextSlot s.head) : t.used = s.used + 1 ∧ t.head < t.params.rxCapacity := by
  have hn : s.nextSlot s.head = if s.head + 1 = s.params.rxCapacity then 0 else s.head + 1 := by
    unfold State.nextSlot
    split
    · rename_i h; rw [h, Nat.mod_self]
    · exact Nat.mod_eq_of_lt (by omega)
  unfold State.used at hroom ⊢
  rw [hp, htail, hhead, hn]
  split_ifs at hroom ⊢ <;> omega

/-- The read index moved on, one byte fewer is queued. -/
theorem used_after_take {s t : State} (hh : s.head < s.params.rxCapacity) (ht : s.tail < s.params.rxCapacity)
    (hu : 0 < s.used) (hp : t.params = s.params) (hhead : t.head = s.head)
    (htail : t.tail = s.nextSlot s.tail) : t.used + 1 = s.used ∧ t.tail < t.params.rxCapacity := by
  have hn : s.nextSlot s.tail = if s.tail + 1 = s.params.rxCapacity then 0 else s.tail + 1 := by
    unfold State.nextSlot
    split
    · rename_i h; rw [h, Nat.mod_self]
    · exact Nat.mod_eq_of_lt (by omega)
  unfold State.used at hu ⊢
  rw [hp, hhead, htail, hn]
  split_ifs at hu ⊢ <;> omega

/-- After the oldest byte is taken the k-th queued byte is the one that was the (k+1)-th. -/
theorem slot_after_take {s t : State} (hp : t.params = s.params)
    (htail : t.tail = s.nextSlot s.tail) (k : Nat) : t.slot k = s.slot (k + 1) := by
  unfold State.slot
  rw [hp, htail, State.nextSlot, Nat.mod_add_mod]
  congr 1
  omega

/-- Every queued slot lies in the ring. -/
theorem State.slot_lt {s : State} (ht : s.tail < s.params.rxCapacity) (k : Nat) : s.slot k < s.params.rxCapacity :=
  Nat.mod_lt _ (by omega)

end Sys2Proof.Machine
end

