-- ==== Sys2Proof/Laws/Queue.lean ====
section
/-! SUPPORT. What the two updates of the ring do to the list of queued bytes: an enqueue appends (R111), a dequeue takes the
oldest (R115), and everything else that keeps ring, indices and draw keeps the list. -/

namespace Sys2Proof.Machine

/-- As many bytes are listed as are queued. -/
@[simp] theorem State.queued_length (s : State) : s.queued.length = s.used := by simp [State.queued]

/-- A slot reads by the ring and the draw alone. -/
theorem rxqRead_congr {s t : State} (hq : t.rxq = s.rxq) (hd : t.drawNo = s.drawNo) (a : Nat) :
    t.rxqRead a = s.rxqRead a := by
  unfold State.rxqRead
  rw [hq, hd]

/-- A place of the line reads by the line and the draw alone. -/
theorem lineRead_congr {s t : State} (hl : t.line = s.line) (hd : t.drawNo = s.drawNo) (a : Nat) :
    t.lineRead a = s.lineRead a := by
  unfold State.lineRead
  rw [hl, hd]

/-- The slots of the queue depend on the read index and the capacity alone. -/
theorem slot_congr {s t : State} (ht : t.tail = s.tail) (hp : t.params = s.params) (k : Nat) :
    t.slot k = s.slot k := by
  unfold State.slot
  rw [ht, hp]

/-- The queued bytes depend on the ring, the indices, the capacity and the draw alone. -/
theorem queued_congr {s t : State} (hh : t.head = s.head) (ht : t.tail = s.tail) (hp : t.params = s.params)
    (hq : t.rxq = s.rxq) (hd : t.drawNo = s.drawNo) : t.queued = s.queued := by
  unfold State.queued
  rw [used_congr hh ht hp]
  exact List.map_congr_left fun k _ => by rw [slot_congr ht hp, rxqRead_congr hq hd]

/-- A byte written at the write index, which moves on, is appended. -/
theorem queued_after_put {s t : State} (hi : s.indicesInRange) (d : Byte)
    (hroom : s.used < s.params.rxCapacity - 1) (hp : t.params = s.params) (htail : t.tail = s.tail)
    (hhead : t.head = s.nextSlot s.head) (hq : t.rxq = s.rxq.write s.head d) (hd : t.drawNo = s.drawNo) :
    t.queued = s.queued ++ [d] := by
  obtain ⟨hh, ht, -⟩ := hi
  unfold State.queued
  rw [(used_after_put hh ht hroom hp htail hhead).1, List.range_succ, List.map_append]
  congr 1
  · refine List.map_congr_left fun k hk => ?_
    have hne := State.slot_ne_head hh ht (List.mem_range.mp hk)
    rw [slot_congr htail hp]
    unfold State.rxqRead
    rw [hq, hd, Memory.read_write, if_neg (Ne.symm hne)]
  · have hslot : t.slot s.used = s.head := (slot_congr htail hp _).trans (State.slot_used hh ht)
    simp [hslot, State.rxqRead, hq]

/-- The read index moved on, the oldest byte is gone. -/
theorem queued_after_take {s t : State} (hi : s.indicesInRange) (hu : 0 < s.used) (hp : t.params = s.params)
    (htail : t.tail = s.nextSlot s.tail) (hhead : t.head = s.head) (hq : t.rxq = s.rxq)
    (hd : t.drawNo = s.drawNo) : t.queued = s.queued.tail := by
  have h := (used_after_take hi.1 hi.2.1 hu hp hhead htail).1
  unfold State.queued
  rw [← h, List.range_succ_eq_map, List.map_cons, List.tail_cons, List.map_map]
  exact List.map_congr_left fun k _ => by
    rw [slot_after_take hp htail, rxqRead_congr hq hd]
    rfl

/-- The first of the queued bytes is the one at the read index. -/
theorem queued_cons {s : State} (hi : s.indicesInRange) {b : Byte} {q : List Byte} (h : s.queued = b :: q) :
    0 < s.used ∧ s.rxqRead s.tail = b := by
  have hu : s.used = q.length + 1 := by rw [← State.queued_length, h, List.length_cons]
  refine ⟨by omega, ?_⟩
  unfold State.queued at h
  rw [hu, List.range_succ_eq_map, List.map_cons, State.slot_zero hi.2.1] at h
  exact (List.cons.inj h).1

/-- What a dequeue does with the byte at the read index: a zero byte only moves the index on, any other is delivered
(R115, R116). -/
theorem dequeue_zero {s : State} (h : s.rxqRead s.tail = 0) : s.dequeue = s.moveTail := if_pos h

theorem dequeue_nonzero {s : State} (h : s.rxqRead s.tail ≠ 0) :
    s.dequeue = s.moveTail.deliver (s.rxqRead s.tail) := if_neg h

/-- RxqPut on the list of queued bytes (R111). -/
theorem rxqPut_queued {s : State} (hi : s.indicesInRange) (d : Byte) :
    (s.rxqPut d).queued = enqueue s.params.rxCapacity d s.queued := by
  unfold State.rxqPut enqueue
  rw [State.queued_length]
  split
  · exact queued_congr rfl rfl rfl rfl rfl
  · exact queued_after_put hi d (by omega) rfl rfl rfl rfl rfl

/-- RxqPut keeps the indices in range (R112). -/
theorem rxqPut_indices {s : State} (hi : s.indicesInRange) (d : Byte) : (s.rxqPut d).indicesInRange := by
  obtain ⟨hh, ht, ho⟩ := hi
  refine ⟨?_, by simpa using ht, by simpa using ho⟩
  unfold State.rxqPut
  split
  · exact hh
  · exact Nat.mod_lt _ (by omega)

/-- RX_SERVICE keeps the indices in range (R112). -/
theorem serviceRx_indices {s : State} (hi : s.indicesInRange) : s.serviceRx.indicesInRange := by
  obtain ⟨hh, ht, ho⟩ := hi
  refine ⟨by simpa using hh, ?_, by simpa using ho⟩
  unfold State.serviceRx
  split
  · simpa [State.nextSlot] using Nat.mod_lt _ (by omega)
  · simpa using ht

/-- A dequeue takes one byte off the count (R115). -/
theorem dequeue_used {s : State} (hi : s.indicesInRange) (hu : 0 < s.used) : s.dequeue.used + 1 = s.used :=
  (used_after_take hi.1 hi.2.1 hu (by simp) (by simp) (by simp)).1

/-- Queued slots stay written where ring and indices stay. -/
theorem written_congr {s t : State} (hh : t.head = s.head) (ht : t.tail = s.tail) (hp : t.params = s.params)
    (hq : t.rxq = s.rxq) (h : ∀ k < s.used, (s.rxq.read (s.slot k)).isSome = true) :
    ∀ k < t.used, (t.rxq.read (t.slot k)).isSome = true := by
  intro k hk
  rw [used_congr hh ht hp] at hk
  rw [hq, slot_congr ht hp]
  exact h k hk

/-- RxqPut writes the slot it queues. -/
theorem rxqPut_written {s : State} (hi : s.indicesInRange) (d : Byte)
    (h : ∀ k < s.used, (s.rxq.read (s.slot k)).isSome = true) :
    ∀ k < (s.rxqPut d).used, ((s.rxqPut d).rxq.read ((s.rxqPut d).slot k)).isSome = true := by
  by_cases hf : s.params.rxCapacity - 1 ≤ s.used
  · apply written_congr (s := s) _ _ _ _ h <;> simp [State.rxqPut, hf]
  · have hput : s.rxqPut d = { s.rxqWrite s.head d with head := s.nextSlot s.head } := by simp [State.rxqPut, hf]
    have hu := (used_after_put (t := s.rxqPut d) hi.1 hi.2.1 (by omega) (by simp) (by simp) (by rw [hput])).1
    intro k hk
    rw [hu] at hk
    rw [slot_congr (s := s) (by simp) (by simp), hput]
    simp only [State.rxqWrite, Memory.read_write]
    split
    · rfl
    · rename_i hne
      rcases Nat.lt_or_ge k s.used with hlt | hge
      · exact h k hlt
      · obtain rfl : k = s.used := by omega
        exact absurd (State.slot_used hi.1 hi.2.1).symm hne

end Sys2Proof.Machine
end

