-- ==== Sys2Proof/Laws/Line.lean ====
section
/-! SUPPORT. What line assembly does to the line buffer, its index and the events (R135), and the count of '+' (R140). -/

namespace Sys2Proof.Machine

/-- The index after a character: at most the size, and below it after an erasure. -/
theorem typeChar_offset {s : State} (h : s.offset < s.params.txLineMax) (c : Byte) :
    (s.typeChar c).offset ≤ s.params.txLineMax ∧
      (erases s.params c = true → (s.typeChar c).offset < s.params.txLineMax) := by
  unfold State.typeChar
  split_ifs <;> simp_all
  omega

/-- Accumulate leaves the index inside the buffer (R33). -/
theorem accumulate_offset {s : State} (h : s.offset < s.params.txLineMax) (b : Byte) :
    (s.accumulate b).offset < s.params.txLineMax := by
  have hty := typeChar_offset h (foldByte s.params b)
  have hcl : ((s.typeChar (foldByte s.params b)).closeIfDone (foldByte s.params b)).offset < s.params.txLineMax := by
    unfold State.closeIfDone
    split_ifs <;> simp_all <;> omega
  simpa [State.accumulate] using hcl

/-- The line after Accumulate is that of its two halves. -/
theorem accumulate_line (s : State) (b : Byte) :
    (s.accumulate b).line = ((s.typeChar (foldByte s.params b)).closeIfDone (foldByte s.params b)).line ∧
      (s.accumulate b).offset =
        ((s.typeChar (foldByte s.params b)).closeIfDone (foldByte s.params b)).offset := by
  simp [State.accumulate]

/-- Typing a character keeps every accumulated place written. -/
theorem typeChar_written {s : State} (h : ∀ a < s.offset, (s.line.read a).isSome = true) (c : Byte) :
    ∀ a < (s.typeChar c).offset, ((s.typeChar c).line.read a).isSome = true := by
  unfold State.typeChar
  split_ifs <;> intro a ha
  · exact h a (by simp at ha; omega)
  · exact h a ha
  · simp only [State.lineWrite, Memory.read_write] at ha ⊢
    split
    · rfl
    · exact h a (by omega)

/-- Accumulate keeps every accumulated place written (R33). -/
theorem accumulate_written {s : State} (h : ∀ a < s.offset, (s.line.read a).isSome = true) (b : Byte) :
    ∀ a < (s.accumulate b).offset, ((s.accumulate b).line.read a).isSome = true := by
  rw [(accumulate_line s b).1, (accumulate_line s b).2]
  unfold State.closeIfDone
  split
  · intro a ha
    simp at ha
  · exact typeChar_written h _

/-- Accumulate only adds events. -/
theorem accumulate_events (s : State) (b : Byte) : ∃ l, (s.accumulate b).events = s.events ++ l := by
  have h : ∃ l, ((s.typeChar (foldByte s.params b)).closeIfDone (foldByte s.params b)).events =
      (s.typeChar (foldByte s.params b)).events ++ l := by
    unfold State.closeIfDone State.closeLine State.reportLength
    split_ifs <;> simp
  simpa [State.accumulate] using h

/-- A write at or behind the end of the payload leaves the payload. -/
theorem linePayload_write (s : State) {n a : Nat} (b : Byte) (h : n ≤ a) :
    (s.lineWrite a b).linePayload n = (List.range n).map s.lineRead := by
  unfold State.linePayload
  refine List.map_congr_left fun x hx => ?_
  have := List.mem_range.mp hx
  simp [State.lineRead, show a ≠ x by omega]

/-- The count of '+' stays in its range (R28). -/
theorem plusCountAfter_le {s : State} (h : s.plusCount ≤ 3) (b : Byte) : s.plusCountAfter b ≤ 3 := by
  unfold State.plusCountAfter
  split_ifs <;> simp_all [Config.escPlusCount]
  omega

/-- A byte of the host's that waits is routed. -/
theorem serviceTx_of_written {s : State} (h : s.status.getLsbD 4 = false) : s.serviceTx = s.routeTx s.txByte :=
  if_neg (by rw [State.flag_eq, getFlag, Flag.pos, h]; exact Bool.false_ne_true)

/-- The routing of R132, its three rows. -/
theorem routeTx_online {s : State} (hm : s.inputs.mode = .offline) (hc : s.inputs.connected = true) (b : Byte) :
    s.routeTx b = s.onlineRelay b := by simp [State.routeTx, hm, hc]

theorem routeTx_offline {s : State} (hm : s.inputs.mode = .offline) (hc : s.inputs.connected = false) (b : Byte) :
    s.routeTx b = s.offlineEcho b := by simp [State.routeTx, hm, hc]

theorem routeTx_browser {s : State} (hm : s.inputs.mode = .browser) (b : Byte) :
    s.routeTx b = s.browserEcho b := by simp [State.routeTx, hm]

/-- TX_SERVICE keeps the indices in range (R112, R33). -/
theorem serviceTx_indices {s : State} (hi : s.indicesInRange) : s.serviceTx.indicesInRange := by
  have hput := rxqPut_indices hi s.txByte
  obtain ⟨hh, ht, ho⟩ := hi
  unfold State.serviceTx State.routeTx State.browserEcho State.offlineEcho
  split_ifs
  · exact ⟨hh, ht, ho⟩
  · exact ⟨by simpa using hh, by simpa using ht, by simpa using ho⟩
  · exact ⟨by simpa using hh, by simpa using ht,
      by simpa using accumulate_offset (s := s.deliver s.txByte) (by simpa using ho) s.txByte⟩
  · exact ⟨hh, ht, ho⟩
  · exact ⟨by simpa using hput.1, by simpa using hput.2.1,
      by simpa using accumulate_offset (s := s.rxqPut s.txByte) hput.2.2 s.txByte⟩

end Sys2Proof.Machine
end

