-- ==== Sys2Proof/Laws/PerInstr.lean ====
section
/-! SUPPORT. A law made for each instruction: its word is one of its own row of the opcode table (R62). -/

namespace Sys2Proof.Laws.TableRow

/-- The columns match and mask of R62. -/
def rowOf : Instr → Desc × Desc
  | .rdData => (0x0000, 0xFFFF)
  | .rdStatus => (0x0100, 0xFFFF)
  | .rdCommand => (0x0200, 0xFFFF)
  | .rdControl => (0x0300, 0xFFFF)
  | .wrData _ => (0x1000, 0xFF00)
  | .wrStatus _ => (0x1100, 0xFF00)
  | .wrCommand _ => (0x1200, 0xFF00)
  | .wrControl _ => (0x1300, 0xFF00)
  | .tick => (0x2000, 0xFFFF)
  | .rxqPut _ => (0x3000, 0xFF00)
  | .rxqClear => (0x4000, 0xFFFF)
  | .rxService => (0x5000, 0xFFFF)
  | .rxFlush => (0x6000, 0xFFFF)
  | .nmiTimeoutChk => (0x7000, 0xFFFF)
  | .txService => (0x8000, 0xFFFF)
  | .escChk => (0x9000, 0xFFFF)
  | .init => (0xF000, 0xFFFF)

/-- The word matches its row under its mask, and names a well-formed descriptor (R62, R65). -/
def Statement (i : Instr) : Prop :=
  encode i &&& (rowOf i).2 = (rowOf i).1 ∧ (Descriptor.ofWord (encode i)).wf = true

theorem rdData : Statement .rdData := by unfold Statement; decide
theorem rdStatus : Statement .rdStatus := by unfold Statement; decide
theorem rdCommand : Statement .rdCommand := by unfold Statement; decide
theorem rdControl : Statement .rdControl := by unfold Statement; decide
theorem wrData (d : Byte) : Statement (.wrData d) := by unfold Statement; revert d; decide
theorem wrStatus (d : Byte) : Statement (.wrStatus d) := by unfold Statement; revert d; decide
theorem wrCommand (d : Byte) : Statement (.wrCommand d) := by unfold Statement; revert d; decide
theorem wrControl (d : Byte) : Statement (.wrControl d) := by unfold Statement; revert d; decide
theorem tick : Statement .tick := by unfold Statement; decide
theorem rxqPut (d : Byte) : Statement (.rxqPut d) := by unfold Statement; revert d; decide
theorem rxqClear : Statement .rxqClear := by unfold Statement; decide
theorem rxService : Statement .rxService := by unfold Statement; decide
theorem rxFlush : Statement .rxFlush := by unfold Statement; decide
theorem nmiTimeoutChk : Statement .nmiTimeoutChk := by unfold Statement; decide
theorem txService : Statement .txService := by unfold Statement; decide
theorem escChk : Statement .escChk := by unfold Statement; decide
theorem init : Statement .init := by unfold Statement; decide

end Sys2Proof.Laws.TableRow
end

