-- ==== Sys2Proof/Laws/Reset.lean ====
section
/-! SUPPORT. The open instance of `State.reset` is legal, and a fold table is the function it was made from. -/

namespace Sys2Proof.Machine

/-- The table of a function folds as the function does (R137). -/
@[simp] theorem foldByte_tabulate (p : Params) (f : Byte → Byte) (b : Byte) :
    foldByte { p with foldTable := Params.tabulate f } b = f b := by
  have hb : BitVec.ofNat 8 b.toNat = b := BitVec.eq_of_toNat_eq (by simp)
  have hget : (Params.tabulate f).get ⟨b.toNat, b.isLt⟩ = f (BitVec.ofNat 8 b.toNat) := by
    simp [Params.tabulate, Vector.get_eq_getElem]
  exact hget.trans (congrArg f hb)

/-- A byte moved on by 1 to 255 is another byte. -/
theorem byte_add_ne (c : Byte) (k : Fin 255) : c ≠ c + BitVec.ofNat 8 (k.val + 1) := by
  intro h
  have hk := k.isLt
  have := congrArg BitVec.toNat h
  simp only [BitVec.toNat_add, BitVec.toNat_ofNat] at this
  have hc := c.isLt
  omega

/-- The open instance meets the constraints of R7, whatever its open values are. -/
theorem config_params_wf : Config.params.wf := by
  refine ⟨Nat.le_add_left 2 _, Config.rxGapCycles.isLt, Config.nmiTimeoutUs.isLt, Nat.le_add_left 2 _, ?_, ?_⟩
  · exact byte_add_ne _ _
  · exact byte_add_ne _ _

end Sys2Proof.Machine
end

