-- ==== Sys2Proof/Laws/Rights.lean ====
section
/-! SUPPORT. When an operation may run, agent by agent: the hypotheses of the statements put into the one condition that
`exec_eq_next` asks for. -/

namespace Sys2Proof.Machine

/-- An operation that nothing refuses answers its effect. -/
theorem exec_of_allowed {i : Instr} {s t : State} (h : refusalOf i s = none) (ht : effectOf i s = t) :
    exec i s = .next t := exec_eq_next.mpr ⟨h, ht.symm⟩

/-- A bus operation may run in every phase (R88). -/
theorem bus_allowed {i : Instr} {s : State} (h : s.OnBus) (hi : agentOf i = .bus) : refusalOf i s = none := by
  obtain ⟨h1, h2⟩ := h
  rw [refusalOf_eq_none]
  cases i <;> simp_all [agentOf, phaseAllows, pageAllows, usesIndices]

/-- TICK may run in every phase (R100). -/
theorem tick_allowed {s : State} (h : s.OnCyc) : refusalOf .tick s = none :=
  refusalOf_eq_none.mpr ⟨h.2, .inl h.1, rfl, rfl, nofun⟩

/-- INIT may run in every state (R180, R181). -/
theorem init_allowed {s : State} (h : s.agent = .init) : refusalOf .init s = none :=
  refusalOf_eq_none.mpr ⟨h, .inr h, rfl, rfl, nofun⟩

/-- What a POLL operation needs beside its agent (R164, R43). -/
theorem poll_allowed {i : Instr} {s : State} (h : s.OnPoll) (hi : agentOf i = .poll)
    (hp : phaseAllows s.pollPhase i = true) (hg : pageAllows s.pollPhase s.inputs.pagePaused i = true)
    (hu : usesIndices i = true → s.indicesInRange) : refusalOf i s = none :=
  refusalOf_eq_none.mpr ⟨h.2.trans hi.symm, .inl h.1, hp, hg, hu⟩

/-- TX_SERVICE in phase Idle or ImmWait. -/
theorem tx_allowed {s : State} (h : s.MayServiceTx) : refusalOf .txService s = none := by
  obtain ⟨h, hp, hi⟩ := h
  exact poll_allowed h rfl (by cases hq : s.pollPhase <;> simp_all [phaseAllows]) rfl fun _ => hi

/-- RX_SERVICE in phase Flushing, or in Idle without a page prompt. -/
theorem rx_allowed {s : State} (h : s.MayServiceRx) : refusalOf .rxService s = none := by
  obtain ⟨h, hp, hi⟩ := h
  refine poll_allowed h rfl ?_ ?_ fun _ => hi
  · rcases hp with ⟨hp, -⟩ | hp <;> simp [phaseAllows, hp]
  · rcases hp with ⟨hp, hq⟩ | hp <;> simp [pageAllows, hp]
    exact hq

/-- NMI_TIMEOUT_CHK in every phase (R103). -/
theorem timeout_allowed {s : State} (h : s.OnPoll) : refusalOf .nmiTimeoutChk s = none :=
  poll_allowed h rfl rfl rfl nofun

end Sys2Proof.Machine
end

