-- ==== Sys2Proof/Laws/Run.lean ====
section
/-! SUPPORT. Runs, one step at a time, and what a run's first operation takes off the schedule. -/

namespace Sys2Proof.Machine

/-- A run of no steps. -/
theorem run_zero (s : State) : Host.Core.run Sys2Proof.core 0 s = .next s := rfl

/-- A run that goes on is a step and the rest of the run. -/
theorem run_succ {k : Nat} {s t : State} :
    Host.Core.run Sys2Proof.core (k + 1) s = .next t ↔
      ∃ m : State, step s = .next m ∧ Host.Core.run Sys2Proof.core k m = .next t := by
  have hrun : Host.Core.run Sys2Proof.core (k + 1) s =
      Host.Outcome.rec (motive := fun _ => Host.Outcome State Fault Refusal)
        (fun m => Host.Core.run Sys2Proof.core k m) (fun r => .fault r) (fun r => .refused r) (step s) := by
    change Host.Core.run Sys2Proof.core (Nat.succ k) s = _
    cases hs : step s with
    | next m =>
      have hcore : Sys2Proof.core.step s = .next m := hs
      simp [Host.Core.run, hcore]
    | fault r => cases r
    | refused r =>
      have hcore : Sys2Proof.core.step s = .refused r := hs
      simp only [Host.Core.run, hcore]
      rfl
  rw [hrun]
  cases step s with
  | next m => simp
  | fault r => cases r
  | refused r => simp

/-- A step that runs an operation leaves the rest of the schedule. -/
theorem exec_begin_schedule {s t : State} {o : Issue} {rest : List Issue} {i : Instr}
    (h : exec i (s.begin o rest) = .next t) : t.schedule = rest := by
  obtain ⟨-, rfl⟩ := exec_eq_next.mp h
  exact (effectOf_keeps i _).2.2.2

/-- The words of a run begin with the word of its first operation. -/
theorem wordsOf_cons {s t : State} {o : Issue} {rest : List Issue} (hs : s.schedule = o :: rest)
    (ht : t.schedule = rest) (k : Nat) : s.wordsOf (k + 1) = o.word :: t.wordsOf k := by
  simp [State.wordsOf, hs, ht]

/-- With nothing scheduled a run has no words. -/
theorem wordsOf_nil {s : State} (hs : s.schedule = []) (k : Nat) : s.wordsOf k = [] := by simp [State.wordsOf, hs]

end Sys2Proof.Machine
end

