-- ==== Sys2Proof/Tests/Slice0.lean ====
section
/-! SUPPORT. The model's own tests: the checks of WellFormed, the words of the opcode table, single steps whose expected
results are vectors of spec/95_test_vectors.md (named in each docstring), and for each obligation that has hypotheses a
state that meets them. The instance is the spec's test instance T (R7). -/

namespace Sys2Proof.Tests

open Sys2Proof.Machine

/-! ### The test instance and its states -/

/-- The suggested `Fold` of R7, which T uses. -/
def foldT (c : Byte) : Byte := if (c &&& 0x7F#8) &&& 0x40#8 = 0#8 then c &&& 0x7F#8 else (c &&& 0x7F#8) ||| 0x20#8

/-- The test instance T of R7. -/
def instT : Params :=
  { rxCapacity := 4
    rxGapCycles := 3
    nmiTimeoutUs := 300
    cmdDefault := 0xE0
    ctrlReset := 0x00
    dsrReset := false
    dcdReset := false
    txLineMax := 8
    chPlus := 0x2B
    chCr := 0x0D
    chBs := 0x08
    chDel := 0x14
    foldTable := Params.tabulate foldT }

/-- Inputs: microseconds, milliseconds, mode, connected; no page prompt. -/
def sampled (us ms : Time) (mode : Mode) (connected : Bool) : Inputs :=
  { nowUs := us, nowMs := ms, mode := mode, connected := connected, pagePaused := false }

/-- "Fresh": the state right after `INIT @ ms=0` (95_test_vectors.md). -/
def fresh : State := State.resetOf instT (sampled 0 0 .offline false) 0

/-- A byte 0x41 delivered at 1000 us and not read. -/
def pending : State :=
  { fresh with rxByte := 0x41, status := 0x98, nmiAsserted := true, nmiAssertTime := 1000 }

/-- A byte written by the host and not consumed. -/
def written (b : Byte) : State := { fresh with txByte := b, status := 0x00 }

/-- Three bytes queued, the ring full. -/
def fullRing : State := { fresh with rxq := [(0, 0x41), (1, 0x42), (2, 0x43)], head := 3 }

/-- Two bytes queued at slots 1 and 2 (the start of vector Q2). -/
def twoQueued : State := { fresh with rxq := [(1, 0x31), (2, 0x32)], head := 3, tail := 1 }

/-- Issued by an agent. -/
def by' (a : Agent) (s : State) : State := { s with agent := a }

/-- Under inputs. -/
def under (inp : Inputs) (s : State) : State := { s with inputs := inp }

/-- The next state of an outcome. -/
def nextOf : Host.Outcome State Fault Refusal → Option State
  | .next s => some s
  | .fault _ => none
  | .refused _ => none

/-- The refusal of an outcome. -/
def refusalIn : Host.Outcome State Fault Refusal → Option Refusal
  | .next _ => none
  | .fault _ => none
  | .refused r => some r

/-- An operation by its own agent, under inputs. -/
def ran (i : Instr) (inp : Inputs) (s : State) : Option State := nextOf (exec i (under inp (by' (agentOf i) s)))

/-- Inputs that the operation does not look at. -/
def idleInputs : Inputs := sampled 0 0 .offline false

/-- An outcome goes on to a state that has a property. -/
def nextHas (o : Host.Outcome State Fault Refusal) (p : State → Prop) [DecidablePred p] : Bool :=
  match o with
  | .next t => decide (p t)
  | .fault _ => false
  | .refused _ => false

theorem exists_next {o : Host.Outcome State Fault Refusal} {p : State → Prop} [DecidablePred p]
    (h : nextHas o p = true) : ∃ t, o = .next t ∧ p t := by
  cases o with
  | next t => exact ⟨t, rfl, of_decide_eq_true h⟩
  | fault r => cases h
  | refused r => cases h

/-! ### WellFormed: each check refuses an ill-formed term -/

theorem test_opOk_refuses_reserved_group : (Descriptor.mk 0xA 0 0 0).opOk = false := by decide
theorem test_zOk_refuses_nonzero_z : (Descriptor.mk 0x1 3 0 0x41).zOk = false := by decide
theorem test_addrOk_refuses_addr_in_c0 : (Descriptor.mk 0x2 0 1 0).addrOk = false := by decide
theorem test_dataOk_refuses_data_in_br : (Descriptor.mk 0x0 0 0 1).dataOk = false := by decide
theorem test_wf_refuses_each : ([(0xA000 : Desc), 0x1C41, 0x2100, 0x0001].map fun w => (Descriptor.ofWord w).wf) =
    [false, false, false, false] := by decide
theorem test_wf_accepts_bus_write : (Descriptor.ofWord 0x13FF).wf = true := by decide

theorem test_params_wf_accepts_T : instT.wf := by decide
theorem test_params_wf_refuses_capacity_1 : ¬ ({ instT with rxCapacity := 1 } : Params).wf := by decide
theorem test_params_wf_refuses_wide_gap : ¬ ({ instT with rxGapCycles := 2 ^ 32 } : Params).wf := by decide
theorem test_params_wf_refuses_wide_timeout : ¬ ({ instT with nmiTimeoutUs := 2 ^ 31 } : Params).wf := by decide
theorem test_params_wf_refuses_line_of_1 : ¬ ({ instT with txLineMax := 1 } : Params).wf := by decide
theorem test_params_wf_refuses_cr_as_bs : ¬ ({ instT with chBs := 0x0D } : Params).wf := by decide
theorem test_params_wf_refuses_cr_as_del : ¬ ({ instT with chDel := 0x0D } : Params).wf := by decide

theorem test_memory_wf_refuses_unsorted : ¬ Memory.wf [(2, 0), (1, 0)] := by decide
theorem test_memory_wf_refuses_repeats : ¬ Memory.wf [(1, 0), (1, 1)] := by decide

/-! ### Decoding: the words of R62 and of 95_test_vectors.md section 2.1, every constructor -/

theorem test_decode_bus_reads :
    [(0x0000 : Nat), 0x0100, 0x0200, 0x0300].map (decodeTableWord 16) =
      [some .rdData, some .rdStatus, some .rdCommand, some .rdControl] := by decide
theorem test_decode_bus_writes :
    [(0x1041 : Nat), 0x11FF, 0x1202, 0x131F].map (decodeTableWord 16) =
      [some (.wrData 0x41), some (.wrStatus 0xFF), some (.wrCommand 0x02), some (.wrControl 0x1F)] := by decide
theorem test_decode_cycle_and_puts :
    [(0x2000 : Nat), 0x3000, 0x30FF].map (decodeTableWord 16) =
      [some .tick, some (.rxqPut 0x00), some (.rxqPut 0xFF)] := by decide
theorem test_decode_poll :
    [(0x4000 : Nat), 0x5000, 0x6000, 0x7000, 0x8000, 0x9000].map (decodeTableWord 16) =
      [some .rxqClear, some .rxService, some .rxFlush, some .nmiTimeoutChk, some .txService, some .escChk] := by decide
theorem test_decode_init : decodeTableWord 16 0xF000 = some .init := by decide
/-- OP 1, Z 0, ADDR 3, DATA 0x1F, bit by bit from R61. -/
theorem test_decode_bit_by_bit : decode (0b0001#4 ++ 0b00#2 ++ 0b11#2 ++ 0b00011111#8) = .ok (.wrControl 0x1F) := by decide
theorem test_decode_reserved :
    [(0x0001 : Desc), 0x0400, 0x1C41, 0x2100, 0x3141, 0x5100, 0x5001, 0xF0FF].map
        (fun w => match decode w with | .ok _ => none | .error e => some e) =
      [some .dataNotZero, some .zNotZero, some .zNotZero, some .addrNotZero, some .addrNotZero, some .addrNotZero,
        some .dataNotZero, some .dataNotZero] := by decide
theorem test_decode_reserved_groups :
    [(0xA000 : Nat), 0xB000, 0xC000, 0xD000, 0xE000].map (decodeTableWord 16) = [none, none, none, none, none] := by decide
theorem test_encode_writes :
    [Instr.wrData 0x41, .wrStatus 0xFF, .wrCommand 0x02, .rxqPut 0xFF, .escChk, .init].map encode =
      [0x1041, 0x11FF, 0x1202, 0x30FF, 0x9000, 0xF000] := by decide

/-! ### One step of each operation -/

/-- B3. -/
theorem test_rdData_consumes : (ran .rdData idleInputs pending).map
    (fun t => (t.dataOut, t.status, t.countdown, t.nmi, t.rxByte)) = some (some 0x41, 0x10, 3, false, 0x41) := by decide
/-- B4: the countdown is reloaded, not added to. -/
theorem test_rdData_reloads : (ran .rdData idleInputs { pending with status := 0x10, countdown := 2 }).map
    (fun t => (t.dataOut, t.status, t.countdown)) = some (some 0x41, 0x10, 3) := by decide
/-- B9. -/
theorem test_rdStatus_clears_nothing : (ran .rdStatus idleInputs pending).map
    (fun t => (t.dataOut, t.status, t.nmi)) = some (some 0x98, 0x98, true) := by decide
/-- B1. -/
theorem test_rdCommand : (ran .rdCommand idleInputs fresh).map State.dataOut = some (some 0xE0) := by decide
/-- B8. -/
theorem test_rdControl : (ran .rdControl idleInputs { fresh with control := 0x1F }).map State.dataOut =
    some (some 0x1F) := by decide
/-- B5: the earlier byte is overwritten and no flag records it. -/
theorem test_wrData_overwrites : (ran (.wrData 0x42) idleInputs (written 0x41)).map
    (fun t => (t.txByte, t.status, t.events)) = some (0x42, 0x00, []) := by decide
/-- The example of R84. -/
theorem test_wrData_clears_txEmpty : (ran (.wrData 0x41) idleInputs fresh).map
    (fun t => (t.txByte, t.status)) = some (0x41, 0x00) := by decide
/-- B6. -/
theorem test_wrStatus_resets_command : (ran (.wrStatus 0xFF) idleInputs { pending with command := 0x09 }).map
    (fun t => (t.command, t.status, t.nmi, t.rxByte)) = some (0xE0, 0x98, true, 0x41) := by decide
/-- B10: disabling does not withdraw a pending interrupt. -/
theorem test_wrCommand_keeps_interrupt : (ran (.wrCommand 0x02) idleInputs pending).map
    (fun t => (t.command, t.status, t.nmi)) = some (0x02, 0x98, true) := by decide
/-- B8. -/
theorem test_wrControl : (ran (.wrControl 0x1F) idleInputs fresh).map
    (fun t => (t.control, t.command)) = some (0x1F, 0xE0) := by decide
/-- T1. -/
theorem test_tick_saturates : (ran .tick idleInputs fresh).map State.countdown = some 0 := by decide
/-- T2. -/
theorem test_tick_counts : (ran .tick idleInputs { fresh with countdown := 3 }).map State.countdown = some 2 := by decide
/-- T3: at exactly the bound nothing; one past it, recovery. -/
theorem test_timeout_is_strict :
    (ran .nmiTimeoutChk (sampled 1300 0 .offline false) pending).map (fun t => (t.status, t.nmi, t.events)) =
        some (0x98, true, []) ∧
      (ran .nmiTimeoutChk (sampled 1301 0 .offline false) pending).map
          (fun t => (t.status, t.nmi, t.events, t.rxByte, t.countdown)) =
        some (0x10, false, [.report .nmiTimeout], 0x41, 0) := by decide
/-- T4: the difference is modular. -/
theorem test_timeout_across_the_wrap :
    (ran .nmiTimeoutChk (sampled 0x2C 0 .offline false) { pending with nmiAssertTime := 0xFFFFFF00 }).map State.status =
        some 0x98 ∧
      (ran .nmiTimeoutChk (sampled 0x2D 0 .offline false) { pending with nmiAssertTime := 0xFFFFFF00 }).map State.status =
        some 0x10 := by decide
/-- Q2, first: the write index wraps. -/
theorem test_rxqPut_wraps : (ran (.rxqPut 0x41) idleInputs twoQueued).map
    (fun t => (t.head, t.tail, t.used, t.rxqRead 3)) = some (0, 1, 3, 0x41) := by decide
/-- Q1, the fourth: dropped and reported. -/
theorem test_rxqPut_overflows : (ran (.rxqPut 0x44) idleInputs fullRing).map
    (fun t => (t.head, t.used, t.events, t.rxq)) =
      some (3, 3, [.report .rxOverflow], [(0, 0x41), (1, 0x42), (2, 0x43)]) := by decide
/-- Q6: the delivered byte stays pending. -/
theorem test_rxqClear : (ran .rxqClear idleInputs { pending with head := 3, tail := 1 }).map
    (fun t => (t.head, t.tail, t.used, t.status, t.nmi, t.rxByte)) = some (0, 0, 0, 0x98, true, 0x41) := by decide
/-- Q9: the read index wraps. -/
theorem test_rxService_wraps :
    (ran .rxService (sampled 7 0 .offline false) { fresh with rxq := [(0, 0x44), (3, 0x43)], head := 1, tail := 3 }).map
      (fun t => (t.rxByte, t.status, t.nmi, t.nmiAssertTime, t.tail, t.used)) =
      some (0x43, 0x98, true, 7, 0, 1) := by decide
/-- Q10: a zero byte is consumed without delivery, and the flush is over. -/
theorem test_rxService_zero_byte :
    (ran .rxService idleInputs { fresh with rxq := [(0, 0x00)], head := 1, pollPhase := .flushing }).map
      (fun t => (t.tail, t.status, t.nmi, t.countdown, t.pollPhase)) = some (1, 0x10, false, 0, .idle) := by decide
/-- Q8. -/
theorem test_rxFlush :
    (ran .rxFlush idleInputs fresh).map State.pollPhase = some .idle ∧
      (ran .rxFlush idleInputs twoQueued).map State.pollPhase = some .flushing := by decide
/-- X1, X2: forwarded online; offline, the echo unfolded and the line folded. -/
theorem test_txService_routes :
    (ran .txService (sampled 0 7000 .offline true) (written 0x41)).map
        (fun t => (t.events, t.status, t.lastTxTime, t.offset)) = some ([.transportWrite 0x41], 0x10, 7000, 0) ∧
      (ran .txService (sampled 0 100 .offline false) (written 0x41)).map
        (fun t => (t.rxq, t.line, t.status, t.lastTxTime)) =
        some ([(0, 0x41)], [(0, 0x61)], 0x10, 100) := by decide
/-- X7, the eighth byte: the echo's report, the length's report, the line, in that order. -/
theorem test_txService_closes_a_full_line :
    (ran .txService idleInputs { fullRing with
        txByte := 0x68, status := 0x00, offset := 7
        line := [(0, 0x61), (1, 0x62), (2, 0x63), (3, 0x64), (4, 0x65), (5, 0x66), (6, 0x67)] }).map
      (fun t => (t.events, t.lineRead 7, t.offset, t.status)) =
      some ([.report .rxOverflow, .report .lineMaxLen,
        .lineDispatch .at [0x61, 0x62, 0x63, 0x64, 0x65, 0x66, 0x67]], 0x00, 0, 0x10) := by decide
/-- E1: 999 ms after the third '+', nothing; 1000 ms, the hangup. -/
theorem test_escChk_guard :
    (ran .escChk (sampled 0 6019 .offline true) { fresh with plusCount := 3, lastTxTime := 5020 }).map
        (fun t => (t.events, t.plusCount)) = some ([], 3) ∧
      (ran .escChk (sampled 0 6020 .offline true) { fresh with plusCount := 3, lastTxTime := 5020 }).map
        (fun t => (t.events, t.plusCount)) = some ([.hangupReq], 0) := by decide
/-- I2: everything is discarded. -/
theorem test_init_discards :
    (ran .init (sampled 0 50 .offline false) { fullRing with
        status := 0x88, nmiAsserted := true, offset := 3, plusCount := 2, pollPhase := .flushing }).map
      (fun t => (t.status, t.nmi, t.used, t.offset, t.lastTxTime)) = some (0x10, false, 0, 0, 50) := by decide

/-! ### The agents' rights -/

/-- I4, I5, I6. -/
theorem test_phases_refuse :
    refusalIn (exec (.rxqPut 0x41) (by' .poll { twoQueued with pollPhase := .flushing })) = some .wrongPhase ∧
      refusalIn (exec .rxService (by' .poll { twoQueued with pollPhase := .immWait })) = some .wrongPhase ∧
      refusalIn (exec .rxService (under { idleInputs with pagePaused := true } (by' .poll twoQueued))) =
        some .pagePaused := by decide
/-- I3. -/
theorem test_before_init_refused : refusalIn (exec .rdStatus (by' .bus State.powerOn)) = some .beforeInit := by decide
/-- Every row of the table runs as the first operation after reset. -/
theorem test_first_operation_runs :
    [(0x0000 : Nat), 0x0100, 0x0200, 0x0300, 0x1000, 0x1100, 0x1200, 0x1300, 0x2000, 0x3000, 0x4000, 0x5000, 0x6000,
      0x7000, 0x8000, 0x9000, 0xF000].all
        (fun w => (nextOf (step (State.reset.withFetchWord 16 w))).isSome) = true := by decide

/-! ### Hypotheses met

For each obligation that has hypotheses, by its name, a state and operands that meet them all, each clause by itself. -/

theorem test_meets_RdDataReturnsByteAndArmsGap : (by' .bus pending).OnBus := by decide
theorem test_meets_OtherReadsReturnStoredByteOnly : (by' .bus pending).OnBus := by decide
theorem test_meets_WrDataLatchesByteAndClearsTxEmpty : (by' .bus (written 0x41)).OnBus := by decide
theorem test_meets_WrStatusResetsCommandOnly : (by' .bus { pending with command := 0x02 }).OnBus := by decide
theorem test_meets_WrCommandAndWrControlStoreTheByte : (by' .bus fresh).OnBus := by decide
theorem test_meets_BusOperationsTouchOnlyTheRegisterFile :
    (by' .bus { pending with pollPhase := .immWait }).OnBus ∧
      ∀ i ∈ [Instr.rdData, .rdStatus, .rdCommand, .rdControl, .wrData 0, .wrStatus 0, .wrCommand 0, .wrControl 0],
        agentOf i = .bus := by decide
theorem test_meets_SecondDataReadRepeatsTheFirst : ∃ t, exec .rdData (by' .bus pending) = .next t ∧ True :=
  exists_next (by decide)

theorem test_meets_TickLowersTheCountdownByOne :
    (by' .cyc { fresh with countdown := 1 }).OnCyc ∧ 0 < (by' .cyc { fresh with countdown := 1 }).countdown ∧
      (by' .cyc fresh).OnCyc ∧ (by' .cyc fresh).countdown = 0 := by decide
/-- The first past the bound, the bound itself, and nothing pending. -/
theorem test_meets_TimeoutWithdrawsAnUnservicedInterrupt :
    ((by' .poll pending).OnPoll ∧ pending.status.getLsbD 7 = true) ∧
      (pending.params.nmiTimeoutUs < ((1301 : Time) - pending.nmiAssertTime).toNat ∧
        ¬ pending.params.nmiTimeoutUs < ((1300 : Time) - pending.nmiAssertTime).toNat) ∧
      ((by' .poll fresh).OnPoll ∧ fresh.status.getLsbD 7 = false) := by decide

/-- A full ring, and one with room for one more. -/
theorem test_meets_RxqPutStoresAtHeadOrReportsOverflow :
    ((by' .poll fullRing).OnPoll ∧ fullRing.pollPhase = .idle ∧ fullRing.indicesInRange ∧
        fullRing.params.rxCapacity - 1 ≤ fullRing.used) ∧
      ((by' .poll twoQueued).OnPoll ∧ twoQueued.pollPhase = .idle ∧ twoQueued.indicesInRange ∧
        twoQueued.used < twoQueued.params.rxCapacity - 1) := by decide
theorem test_meets_RxqClearResetsTheIndices : (by' .poll twoQueued).OnPoll ∧ twoQueued.pollPhase = .idle := by decide
/-- A byte, in both phases; a zero byte; an empty queue; a byte that is not ready. -/
theorem test_meets_RxServiceDeliversOneByteWhenReady :
    ((by' .poll twoQueued).MayServiceRx ∧ 0 < twoQueued.used ∧ twoQueued.ready = true ∧
        twoQueued.rxqRead twoQueued.tail ≠ 0) ∧
      (by' .poll { twoQueued with pollPhase := .flushing }).MayServiceRx ∧
      ({ twoQueued with rxq := [(1, 0), (2, 0x32)] } : State).rxqRead 1 = 0 ∧
      ((by' .poll fresh).MayServiceRx ∧ ¬ (0 < fresh.used ∧ fresh.ready = true)) ∧
      ((by' .poll { twoQueued with countdown := 1 }).MayServiceRx ∧
        ({ twoQueued with countdown := 1 } : State).ready = false) := by decide
theorem test_meets_RxFlushStartsOnlyWithBytesQueued :
    ((by' .poll twoQueued).OnPoll ∧ twoQueued.pollPhase = .idle ∧ twoQueued.indicesInRange ∧ 0 < twoQueued.used) ∧
      ((by' .poll fresh).OnPoll ∧ fresh.pollPhase = .idle ∧ fresh.indicesInRange ∧ fresh.used = 0) := by decide
/-- The last slot, on either side of the wrap. -/
theorem test_meets_UsedCountsBelowCapacity :
    (fullRing.head < fullRing.params.rxCapacity ∧ fullRing.tail < fullRing.params.rxCapacity) ∧
      (({ fresh with tail := 3 } : State).head < fresh.params.rxCapacity ∧
        ({ fresh with tail := 3 } : State).tail < fresh.params.rxCapacity) := by decide
/-- A put into a full ring; a service that delivers the oldest of two; one that takes a single zero byte. -/
theorem test_meets_RingIsAFirstInFirstOutQueue :
    (fullRing.indicesInRange ∧ ∃ t, exec (.rxqPut 0x44) (by' .poll fullRing) = .next t ∧ t.used = 3) ∧
      (twoQueued.indicesInRange ∧ twoQueued.ready = true ∧ twoQueued.queued = [0x31, 0x32] ∧
        ∃ t, exec .rxService (by' .poll twoQueued) = .next t ∧ t.rxByte = 0x31) ∧
      (({ fresh with rxq := [(0, 0x00)], head := 1 } : State).queued = [0x00] ∧
        ∃ t, exec .rxService (by' .poll { fresh with rxq := [(0, 0x00)], head := 1 }) = .next t ∧
          t.flag .rxFull = false) :=
  ⟨⟨by decide, exists_next (by decide)⟩, ⟨by decide, by decide, by decide, exists_next (by decide)⟩,
    ⟨by decide, exists_next (by decide)⟩⟩

theorem test_meets_TxServiceWithNothingWrittenDoesNothing :
    (by' .poll fresh).MayServiceTx ∧ fresh.status.getLsbD 4 = true := by decide
theorem test_meets_OnlineRelayForwardsTheByte :
    (by' .poll (under (sampled 0 1000 .offline true) (written 0x2B))).MayServiceTx ∧
      (written 0x2B).status.getLsbD 4 = false ∧ (under (sampled 0 1000 .offline true) (written 0x2B)).DataPosition := by
  decide
theorem test_meets_OfflineEchoGoesThroughTheQueue :
    (by' .poll (written 0x41)).MayServiceTx ∧ (written 0x41).status.getLsbD 4 = false ∧
      (written 0x41).inputs.mode = .offline ∧ (written 0x41).inputs.connected = false ∧
      (written 0x41).used < (written 0x41).params.rxCapacity - 1 ∧
      fullRing.used = fullRing.params.rxCapacity - 1 := by decide
theorem test_meets_BrowserEchoIsDeliveredOrHeld :
    (by' .poll (under (sampled 9 9 .browser true) (written 0x62))).MayServiceTx ∧
      (written 0x62).status.getLsbD 4 = false ∧ (written 0x62).ready = true ∧
      (by' .poll { written 0x62 with countdown := 1, pollPhase := .immWait }).MayServiceTx ∧
      ({ written 0x62 with countdown := 1, pollPhase := .immWait } : State).ready = false := by decide

/-- A line with one character, the host's last byte typed, offline. -/
def typed (b : Byte) (n : Nat) : State := by' .poll { written b with line := [(0, 0x61)], offset := n }

/-- Up to the last character that fits. -/
theorem test_meets_LineAppendsAFoldedCharacter :
    (typed 0x41 6).MayServiceTx ∧ (typed 0x41 6).status.getLsbD 4 = false ∧ (typed 0x41 6).CommandPosition ∧
      foldByte instT 0x41 ≠ instT.chBs ∧ foldByte instT 0x41 ≠ instT.chDel ∧ foldByte instT 0x41 ≠ instT.chCr ∧
      (typed 0x41 6).offset + 1 < instT.txLineMax := by decide
/-- Backspace on an empty line, delete after one character. -/
theorem test_meets_LineErasesTheLastCharacter :
    ((typed 0x08 0).MayServiceTx ∧ (typed 0x08 0).CommandPosition ∧ instT.wf ∧ foldByte instT 0x08 = instT.chBs) ∧
      ((typed 0x14 1).MayServiceTx ∧ (typed 0x14 1).CommandPosition ∧ (typed 0x14 1).status.getLsbD 4 = false ∧
        foldByte instT 0x14 = instT.chDel) := by decide
/-- In the first slot and in the last, offline and browsing. -/
theorem test_meets_CarriageReturnDispatchesTheLine :
    ((typed 0x0D 0).MayServiceTx ∧ (typed 0x0D 0).status.getLsbD 4 = false ∧ (typed 0x0D 0).CommandPosition ∧ instT.wf ∧
        foldByte instT 0x0D = instT.chCr) ∧
      ((typed 0x0D 7).MayServiceTx ∧ (under (sampled 0 0 .browser false) (typed 0x0D 7)).CommandPosition) := by decide
theorem test_meets_FullBufferDispatchesTheLineAndReports :
    (typed 0x68 7).MayServiceTx ∧ (typed 0x68 7).status.getLsbD 4 = false ∧ (typed 0x68 7).CommandPosition ∧
      foldByte instT 0x68 ≠ instT.chBs ∧ foldByte instT 0x68 ≠ instT.chDel ∧ foldByte instT 0x68 ≠ instT.chCr ∧
      (typed 0x68 7).offset + 1 = instT.txLineMax := by decide
/-- Exactly the guard, and one millisecond less. -/
theorem test_meets_EscapeCheckRequestsTheHangup :
    ((by' .poll { fresh with plusCount := 3 }).OnPoll ∧ fresh.pollPhase = .idle) ∧
      1000 ≤ ((6020 : Time) - 5020).toNat ∧ ¬ 1000 ≤ ((6019 : Time) - 5020).toNat := by decide

/-- Vector E1 as a schedule. -/
def escapeSchedule (first second third last : Inputs) : List Issue :=
  [issueOf first (.wrData 0x2B), issueOf first .txService, issueOf first (.wrData 0x2B), issueOf second .txService,
    issueOf first (.wrData 0x2B), issueOf third .txService, issueOf last .escChk]

/-- Vector E1, with both silences at exactly the guard. -/
theorem test_meets_ThreePlusWithSilenceRequestTheHangup :
    ∃ (first second third last : Inputs) (s : State),
      (∀ inp ∈ [first, second, third], inp.mode = .offline ∧ inp.connected = true) ∧ s.initialised = true ∧
        s.pollPhase = .idle ∧ s.indicesInRange ∧ s.plusCount = 0 ∧ 1000 ≤ (first.nowMs - s.lastTxTime).toNat ∧
        1000 ≤ (last.nowMs - third.nowMs).toNat ∧ s.params.chPlus = 0x2B ∧
        s.schedule = escapeSchedule first second third last :=
  ⟨sampled 0 5000 .offline true, sampled 0 5010 .offline true, sampled 0 5020 .offline true,
    sampled 0 6020 .offline true,
    { fresh with
      lastTxTime := 4000
      schedule := escapeSchedule (sampled 0 5000 .offline true) (sampled 0 5010 .offline true)
        (sampled 0 5020 .offline true) (sampled 0 6020 .offline true) }, by decide⟩
/-- One '+' and no hangup, in a run of two operations. -/
theorem test_meets_HangupNeedsThreePlusForwarded :
    fresh.plusCount = 0 ∧
      ∃ t, Host.Core.run Sys2Proof.core 2 { fresh with
          schedule := [issueOf (sampled 0 1000 .offline true) (.wrData 0x2B),
            issueOf (sampled 0 1000 .offline true) .txService] } = .next t ∧ t.plusCount = 1 :=
  ⟨rfl, exists_next (by decide)⟩

theorem test_meets_InitEstablishesTheResetValues : (by' .init pending).agent = .init := by decide
theorem test_meets_InitEstablishesTheInvariants :
    instT.wf ∧ ∃ t, exec .init (by' .init { pending with head := 9 }) = .next t ∧ t.head = 0 :=
  ⟨by decide, exists_next (by decide)⟩
theorem test_meets_InitLeavesTheStateResetIs : (by' .init twoQueued).agent = .init := by decide

theorem test_meets_WrongAgentIsRefused :
    (by' .poll fresh).agent ≠ .bus ∧ (by' .bus fresh).agent ≠ .cyc ∧ (by' .cyc fresh).agent ≠ .poll ∧
      (by' .poll fresh).agent ≠ .init := by decide
theorem test_meets_WrongPhaseIsRefused :
    (by' .poll { twoQueued with pollPhase := .immWait }).OnPoll ∧
      (by' .poll { twoQueued with pollPhase := .flushing }).OnPoll ∧
      (by' .poll (under { idleInputs with pagePaused := true } twoQueued)).OnPoll := by decide
theorem test_meets_NothingRunsBeforeInit :
    State.powerOn.initialised = false ∧ ∃ t, exec .init State.powerOn = .next t ∧ t.initialised = true :=
  ⟨rfl, exists_next (by decide)⟩
/-- The smallest value of each index that is out of range; each operation in each of its phases, with a page prompt where the
gate allows it. -/
theorem test_meets_IndexOutOfRangeIsRefused :
    (by' .poll { fresh with head := 4 }).OnPoll ∧
      ([Instr.rxqPut 0x41, .rxFlush, .txService].all
        fun i => phaseAllows .idle i && pageAllows .idle true i) = true ∧
      (phaseAllows .idle .rxService && pageAllows .idle false .rxService) = true ∧
      (phaseAllows .flushing .rxService && pageAllows .flushing true .rxService) = true ∧
      (phaseAllows .immWait .txService && pageAllows .immWait true .txService) = true ∧
      ¬ ({ fresh with head := 4 } : State).indicesInRange ∧ ¬ ({ fresh with tail := 4 } : State).indicesInRange ∧
      ¬ ({ fresh with offset := 8 } : State).indicesInRange := by decide
theorem test_meets_CycleAndPollOperationsWriteOnlyTheirShare :
    (nextHas (exec .tick (by' .cyc fresh)) fun _ => True) = true ∧
      [Instr.rxqPut 0x41, .rxqClear, .rxFlush, .escChk, .rxService, .txService, .nmiTimeoutChk].all
        (fun i => nextHas (exec i (by' .poll twoQueued)) fun _ => True) = true := by decide

theorem test_meets_TxEmptyIsTheHandshake :
    (nextHas (exec (.wrData 0x41) (by' .bus fresh)) fun t => fresh.flag .txEmpty = true ∧ t.flag .txEmpty = false) = true ∧
      (nextHas (exec .txService (by' .poll (written 0x41)))
        fun t => (written 0x41).flag .txEmpty = false ∧ t.flag .txEmpty = true) = true := by decide
theorem test_meets_ErrorAndModemFlagsNeverChange : ∃ t, exec .rdData (by' .bus pending) = .next t ∧ Instr.rdData ≠ .init :=
  exists_next (by decide)
theorem test_meets_ReceiveFlagsMoveTogether : ∃ t, exec .rxService (by' .poll twoQueued) = .next t ∧ True :=
  exists_next (by decide)
theorem test_meets_InterruptRisesOnlyWhenReady :
    ∃ t, exec .rxService (by' .poll twoQueued) = .next t ∧ twoQueued.nmiAsserted = false ∧ t.nmiAsserted = true :=
  exists_next (by decide)
theorem test_meets_InterruptFallsOnlyByReadTimeoutOrInit :
    ∃ t, exec .rdData (by' .bus pending) = .next t ∧ pending.nmiAsserted = true ∧ t.nmiAsserted = false :=
  exists_next (by decide)
theorem test_meets_ControlRegisterHasNoFunction :
    ∃ t, exec .rxService (by' .poll twoQueued) = .next t ∧ Instr.rxService ≠ .rdControl ∧
      (∀ d, Instr.rxService ≠ .wrControl d) ∧ Instr.rxService ≠ .init :=
  have ⟨t, h, _⟩ := exists_next (o := exec .rxService (by' .poll twoQueued)) (p := fun _ => True) (by decide)
  ⟨t, h, nofun, nofun, nofun⟩
theorem test_meets_OtherCommandBitsHaveNoFunction :
    (∃ t, exec .rxService (by' .poll twoQueued) = .next t ∧ (0x1D : Byte).getLsbD 1 = twoQueued.command.getLsbD 1) ∧
      Instr.rxService ≠ .rdCommand ∧ (∀ d, Instr.rxService ≠ .wrCommand d) ∧ (∀ d, Instr.rxService ≠ .wrStatus d) ∧
      Instr.rxService ≠ .init :=
  ⟨exists_next (by decide), nofun, nofun, nofun, nofun⟩

/-- The flush that ends, Q10. -/
theorem test_meets_FlushEndsWhenTheQueueIsEmpty :
    ∃ t, exec .rxService (by' .poll { fresh with rxq := [(0, 0x00)], head := 1, pollPhase := .flushing }) = .next t ∧
      t.pollPhase ≠ .flushing ∧ t.used = 0 :=
  exists_next (by decide)
/-- Both waits: Q11, and a held echo. -/
theorem test_meets_WaitsHangWhileTheInterruptIsDisabled :
    (∃ t, exec .rxService (by' .poll { twoQueued with command := 0x02, pollPhase := .flushing }) = .next t ∧
        0 < twoQueued.used ∧ (0x02 : Byte).getLsbD 1 = true) ∧
      ∃ t, exec .txService (by' .poll (under (sampled 0 0 .browser false)
          { written 0x62 with command := 0x02, pollPhase := .immWait })) = .next t ∧
        (written 0x62).flag .txEmpty = false :=
  ⟨exists_next (by decide), exists_next (by decide)⟩

theorem test_meets_EncodeInvertsDecode : decode 0x1041 = .ok (.wrData 0x41) := by decide
theorem test_meets_StepRunsTheNextOperation :
    ({ fresh with schedule := [issueOf idleInputs .tick] } : State).schedule = [issueOf idleInputs .tick] ∧
      decode (issueOf idleInputs .tick).word = .ok .tick := by decide
theorem test_meets_StepRefusesAReservedWordAndWaitsForAnOperation :
    (({ fresh with schedule := [issueOfWord idleInputs 0xA000] } : State).schedule = [issueOfWord idleInputs 0xA000] ∧
        decode (issueOfWord idleInputs 0xA000).word = .error .reservedOp) ∧ fresh.schedule = [] := by decide

/-- A good state with a byte pending, a byte waiting to be echoed, two bytes queued and half a line. -/
def busy : State :=
  { pending with
    txByte := 0x62, status := 0x88, pollPhase := .immWait, countdown := 3, plusCount := 3
    rxq := [(1, 0x31), (2, 0x32)], head := 3, tail := 1, line := [(0, 0x61), (1, 0x74)], offset := 2
    schedule := [issueOf (sampled 9 9 .browser false) .rdData] }

theorem test_meets_EveryStepKeepsTheInvariants :
    (busy.params.wf ∧ busy.Consistent) ∧ ∃ t, step busy = .next t ∧ t.nmiAsserted = false :=
  ⟨by decide, exists_next (by decide)⟩
theorem test_meets_EveryStepKeepsMemoryCanonical :
    (busy.params.wf ∧ busy.MemoryOk) ∧ ∃ t, step busy = .next t ∧ t.rxq = busy.rxq :=
  ⟨by decide, exists_next (by decide)⟩
theorem test_meets_EveryStepKeepsTheQueueAndLineWritten :
    (busy.params.wf ∧ busy.Consistent ∧ busy.Written) ∧ ∃ t, step busy = .next t ∧ t.used = 2 :=
  ⟨by decide, exists_next (by decide)⟩
theorem test_meets_RingAndLineDrawsAreUnobservable :
    (twoQueued.params.wf ∧ twoQueued.Consistent ∧ twoQueued.Written) ∧ Instr.rxService ≠ .init ∧
      ∃ t, exec .rxService (by' .poll twoQueued) = .next t ∧ t.rxByte = 0x31 :=
  ⟨by decide, nofun, exists_next (by decide)⟩
theorem test_meets_EveryStepKeepsTheHeldByte :
    (busy.HeldByteKept ∧ busy.pollPhase = .immWait) ∧ ∃ t, step busy = .next t ∧ t.pollPhase = .immWait :=
  ⟨by decide, exists_next (by decide)⟩
theorem test_meets_ParametersAreFixedAndEventsOnlyGrow : ∃ t, step busy = .next t ∧ t.rxByte = 0x41 :=
  exists_next (by decide)

/-- What follows a data read: the gap's ticks, one RX_SERVICE. -/
def gapSchedule (n : Nat) : List Issue := pseudoTicks idleInputs n ++ [issueOf idleInputs .rxService]

/-- A read, the gap, a delivery: the ticks are exactly the gap. -/
theorem test_meets_GapSeparatesAReadFromTheNextInterrupt :
    ∃ s, exec .rdData (by' .bus { twoQueued with schedule := gapSchedule 3 }) = .next s ∧
      (0xF000#16 ∉ s.wordsOf 4 ∧
        nextHas (Host.Core.run Sys2Proof.core 4 s) (fun t => t.nmiAsserted = true) = true ∧ s.countOf 4 0x2000#16 = 3) :=
  exists_next (by decide)
theorem test_meets_NoDeliveryOverAPendingByte :
    let s : State := { pending with schedule := [issueOf idleInputs .rxService] }
    s.nmiAsserted = true ∧ s.FlagsAgree ∧ 0x0000#16 ∉ s.wordsOf 1 ∧ 0xF000#16 ∉ s.wordsOf 1 ∧
      nextHas (Host.Core.run Sys2Proof.core 1 s)
        (fun t => t.events.count (.report .nmiTimeout) = s.events.count (.report .nmiTimeout)) = true := by decide
theorem test_meets_ReadThenGapThenServiceDelivers :
    let s : State := { twoQueued with schedule := issueOf idleInputs .rdData :: gapSchedule 3 }
    s.initialised = true ∧ s.pollPhase = .idle ∧ idleInputs.pagePaused = false ∧ s.indicesInRange ∧ 0 < s.used ∧
      s.rxqRead s.tail ≠ 0 ∧ s.command.getLsbD 1 = false ∧
      s.schedule = issueOf idleInputs .rdData :: pseudoTicks idleInputs s.params.rxGapCycles ++
        [issueOf idleInputs .rxService] := by decide

end Sys2Proof.Tests
end

section
/-! What a step does with the first issue of the schedule (R6, R46). -/

namespace Sys2Proof.Machine

/-- The next operation is the first issue's word, decoded, in the state in which that issue has begun. -/
theorem fetch_of_schedule_cons {s : State} {o : Issue} {rest : List Issue} (hs : s.schedule = o :: rest) :
    fetch s = some (decode o.word, s.begin o rest) := by
  simp only [fetch, hs]

/-- A fetched operation is executed whole, in the state it was fetched with. -/
theorem step_of_fetch_ok {s t : State} {i : Instr} (hf : fetch s = some (.ok i, t)) : step s = exec i t := by
  simp only [step, hf]

/-- Settles O50: the fetch begins the first issue, and the operation its word decodes to runs in that state. -/
theorem stepRunsTheNextOperation : Obligations.StepRunsTheNextOperation := by
  intro s o rest i hs hd
  have hf : fetch s = some (.ok i, s.begin o rest) := by rw [fetch_of_schedule_cons hs, hd]
  exact step_of_fetch_ok hf

end Sys2Proof.Machine
end

section
/-! What completed operations and steps can do, said once: the branches of the two service operations, the writes of the
status byte, and the one way from an operation to a step. -/

namespace Sys2Proof.Machine

/-- A dequeue drops a zero byte and delivers any other (R115, R116). -/
theorem dequeue_cases (s : State) :
    s.dequeue = s.moveTail ∨ s.dequeue = s.moveTail.deliver (s.rxqRead s.tail) := by
  by_cases h : s.rxqRead s.tail = 0
  · exact .inl (dequeue_zero h)
  · exact .inr (dequeue_nonzero h)

/-- RX_SERVICE takes a byte from a Ready block's queue or takes none; then a flush may end (R115). -/
theorem serviceRx_cases (s : State) :
    s.serviceRx = s.endFlush ∨ (0 < s.used ∧ s.serviceRx = s.dequeue.endFlush) := by
  by_cases h : 0 < s.used ∧ s.ready = true
  · exact .inr ⟨h.1, if_pos h⟩
  · exact .inl (if_neg h)

/-- The branches of TX_SERVICE: nothing written, the data position, the offline echo, and the browser echo delivered or
held (R130 to R134). -/
inductive TxBranch (s : State) : Prop
  | nothing (h : s.serviceTx = s)
  | relayed (h : s.serviceTx = s.onlineRelay s.txByte)
  | queued (h : s.serviceTx = (s.rxqPut s.txByte).accumulate s.txByte)
  | delivered (h : s.serviceTx = (s.deliver s.txByte).accumulate s.txByte)
  | held (h : s.serviceTx = s.enterPhase .immWait)

/-- Every TX_SERVICE takes one of the branches. -/
theorem serviceTx_branch (s : State) : TxBranch s := by
  by_cases he : s.flag .txEmpty
  · exact .nothing (if_pos he)
  have hroute : s.serviceTx = s.routeTx s.txByte := if_neg he
  cases hm : s.inputs.mode with
  | offline =>
    cases hc : s.inputs.connected with
    | true => exact .relayed (hroute.trans (routeTx_online hm hc _))
    | false => exact .queued (hroute.trans (routeTx_offline hm hc _))
  | browser =>
    rw [routeTx_browser hm] at hroute
    by_cases hr : s.ready = true
    · exact .delivered (hroute.trans (if_pos hr))
    · exact .held (hroute.trans (if_neg hr))

/-- The ways an operation may write the status byte, and the interrupt assertion with it (R14 to R19). -/
inductive StatusWrite (i : Instr) (s t : State) : Prop
  | untouched (hs : t.status = s.status) (hn : t.nmiAsserted = s.nmiAsserted)
  | receive (v : Bool) (hs : t.status = (s.setRxFlags v).status) (hn : t.nmiAsserted = v)
  | written (d : Byte) (hi : i = .wrData d) (hs : t.status = putFlag .txEmpty false s.status)
      (hn : t.nmiAsserted = s.nmiAsserted)
  | consumed (hi : i = .txService) (hs : t.status = putFlag .txEmpty true s.status)
      (hn : t.nmiAsserted = s.nmiAsserted)
  | echoed (hi : i = .txService) (hs : t.status = putFlag .txEmpty true (s.setRxFlags true).status)
      (hn : t.nmiAsserted = true)
  | reset (hi : i = .init) (hs : t.status = resetStatus s.params) (hn : t.nmiAsserted = false)

/-- RX_SERVICE leaves the status byte or sets the receive flags (R115, R118). -/
theorem serviceRx_status (s : State) : StatusWrite .rxService s s.serviceRx := by
  rcases serviceRx_cases s with h | ⟨-, h⟩
  · exact .untouched (by simp [h]) (by simp [h])
  · rcases dequeue_cases s with hd | hd
    · exact .untouched (by simp [h, hd]) (by simp [h, hd])
    · exact .receive true (by simp [h, hd]) (by simp [h, hd])

/-- TX_SERVICE leaves the status byte, or sets txEmpty, with the receive flags if it delivers (R131 to R135). -/
theorem serviceTx_status (s : State) : StatusWrite .txService s s.serviceTx := by
  cases serviceTx_branch s with
  | nothing h => exact .untouched (by rw [h]) (by rw [h])
  | relayed h => exact .consumed rfl (by simp [h]) (by simp [h])
  | queued h => exact .consumed rfl (by simp [h]) (by simp [h])
  | delivered h => exact .echoed rfl (by simp [h]) (by simp [h])
  | held h => exact .untouched (by simp [h]) (by simp [h])

/-- NMI_TIMEOUT_CHK leaves the status byte or clears the receive flags (R103). -/
theorem checkTimeout_status (s : State) : StatusWrite .nmiTimeoutChk s s.checkTimeout := by
  unfold State.checkTimeout
  split
  · exact .receive false rfl rfl
  · exact .untouched rfl rfl

/-- How each operation writes the status byte and the interrupt assertion. -/
theorem effectOf_status (i : Instr) (s : State) : StatusWrite i s (effectOf i s) := by
  cases i with
  | rdData => exact .receive false rfl rfl
  | wrData d => exact .written d rfl rfl rfl
  | rxService => exact serviceRx_status s
  | txService => exact serviceTx_status s
  | nmiTimeoutChk => exact checkTimeout_status s
  | init => exact .reset rfl (State.initialise_status s) rfl
  | tick => exact .untouched (by simp [effectOf]) (by simp [effectOf])
  | rxqPut d => exact .untouched (by simp [effectOf]) (by simp [effectOf])
  | rxFlush => exact .untouched (by simp [effectOf]) (by simp [effectOf])
  | escChk => exact .untouched (by simp [effectOf]) (by simp [effectOf])
  | rdStatus | rdCommand | rdControl | wrStatus | wrCommand | wrControl | rxqClear => exact .untouched rfl rfl

/-- How a completed operation has written the status byte and the interrupt assertion. -/
theorem exec_status {i : Instr} {s t : State} (h : exec i s = .next t) : StatusWrite i s t := by
  obtain ⟨-, rfl⟩ := exec_eq_next.mp h
  exact effectOf_status i s

/-- What the beginning of an operation and every completed operation keep, a step keeps. -/
theorem step_keeps {P : State → Prop} (hbegin : ∀ s o rest, P s → P (s.begin o rest))
    (hexec : ∀ i s t, P s → exec i s = .next t → P t) {s t : State} (hs : P s) (h : step s = .next t) : P t := by
  rcases step_eq_next h with ⟨-, rfl⟩ | ⟨o, rest, i, -, -, hi⟩
  · exact hs
  · exact hexec i _ t (hbegin s o rest hs) hi

end Sys2Proof.Machine
end

section
/-! The flags of the status byte (R14 to R19), `Ready` (R32) and the count of queued bytes (R31). -/

namespace Sys2Proof.Machine

/-- Settles O37: of the ways to write the status byte only those of WR_DATA, TX_SERVICE and INIT touch txEmpty. -/
theorem txEmptyIsTheHandshake : Obligations.TxEmptyIsTheHandshake := by
  intro i s t h
  cases exec_status h with
  | untouched hs | receive _ hs =>
    have hkeep : getFlag .txEmpty t.status = getFlag .txEmpty s.status := by simp [hs]
    constructor <;> simp +contextual [hkeep]
  | written d hi hs => exact ⟨fun _ _ => ⟨d, hi⟩, by simp [hs]⟩
  | consumed hi hs | echoed hi hs => exact ⟨by simp [hs], fun _ _ => .inl hi⟩
  | reset hi hs => exact ⟨by simp [hs], fun _ _ => .inr hi⟩

/-- An operation other than INIT writes no field but rxFull, interruptPending and txEmpty (R18, R19). -/
theorem StatusWrite.getFlag_eq {i : Instr} {s t : State} (h : StatusWrite i s t) (hi : i ≠ .init) {f : Flag}
    (h1 : f ≠ .rxFull) (h2 : f ≠ .interruptPending) (h3 : f ≠ .txEmpty) :
    getFlag f t.status = getFlag f s.status := by
  cases h with
  | untouched hs => rw [hs]
  | receive _ hs | written _ _ hs | consumed _ hs | echoed _ hs => simp [hs, h1, h2, h3]
  | reset h => exact absurd h hi

/-- Settles O38: none of the five is among the fields that an operation other than INIT writes. -/
theorem errorAndModemFlagsNeverChange : Obligations.ErrorAndModemFlagsNeverChange := by
  intro i s t h hi f hf
  apply (exec_status h).getFlag_eq hi <;> rintro rfl <;> simp at hf

/-- The receive flags and the interrupt assertion are as before, or all three have one value (R15, R16). -/
theorem StatusWrite.receive_flags {i : Instr} {s t : State} (h : StatusWrite i s t) :
    (t.flag .rxFull = s.flag .rxFull ∧ t.flag .interruptPending = s.flag .interruptPending ∧
      t.nmiAsserted = s.nmiAsserted) ∨
    (t.flag .rxFull = t.nmiAsserted ∧ t.flag .interruptPending = t.nmiAsserted) := by
  cases h with
  | untouched hs hn | written _ _ hs hn | consumed _ hs hn => left; simp [hs, hn]
  | receive _ hs hn | echoed _ hs hn | reset _ hs hn => right; simp [hs, hn]

/-- Settles O39: the two flags are written together or not at all. -/
theorem receiveFlagsMoveTogether : Obligations.ReceiveFlagsMoveTogether := by
  intro i s t h
  rcases (exec_status h).receive_flags with ⟨hfull, hpending, -⟩ | ⟨hfull, hpending⟩
  · exact .inr ⟨hfull, hpending⟩
  · exact .inl (hfull.trans hpending.symm)

/-- Settles O16: the four terms of `Ready`, each a bit at its place. -/
theorem readyIsTheFourConditions : Obligations.ReadyIsTheFourConditions := by
  intro s
  simp [State.ready, State.rxIntEnabled, Config.rxIntEnBit, getFlag, Flag.pos, and_assoc]

/-- An index moved on wraps at the end of the ring (R112). -/
theorem State.nextSlot_eq {s : State} {a : Nat} (h : a < s.params.rxCapacity) :
    s.nextSlot a = if a + 1 = s.params.rxCapacity then 0 else a + 1 := by
  unfold State.nextSlot
  split
  · rw [‹a + 1 = _›, Nat.mod_self]
  · exact Nat.mod_eq_of_lt (by omega)

/-- Settles O14: the four clauses by the arithmetic of the two indices, the wrap of the write index written out. -/
theorem usedCountsBelowCapacity : Obligations.UsedCountsBelowCapacity := by
  intro s hh ht
  have hlt := State.used_lt hh ht
  have hnext : (s.head + 1) % s.params.rxCapacity = _ := State.nextSlot_eq hh
  refine ⟨rfl, by omega, ?_, ?_⟩
  · unfold State.used
    split <;> omega
  · rw [hnext]
    unfold State.used
    split_ifs <;> omega

end Sys2Proof.Machine
end

section
/-! The invariants I-a to I-g of R35: each clause kept by the effects that write what it speaks of, then all of them by
every step. -/

namespace Sys2Proof.Machine

/-- I-a: whatever writes the receive flags or the interrupt assertion writes all three alike (R16). -/
theorem effectOf_flagsAgree {s : State} (h : s.FlagsAgree) (i : Instr) : (effectOf i s).FlagsAgree := by
  obtain ⟨hfull, hpending⟩ := h
  rcases (effectOf_status i s).receive_flags with ⟨h1, h2, h3⟩ | ⟨h1, h2⟩
  · exact ⟨h1.trans (hfull.trans h2.symm), h2.trans (hpending.trans h3.symm)⟩
  · exact ⟨h1.trans h2.symm, h2⟩

/-- I-b, I-c: every operation leaves the indices in range. -/
theorem effectOf_indices {s : State} (h : s.indicesInRange) (i : Instr) : (effectOf i s).indicesInRange := by
  have hzero : 0 < s.params.rxCapacity ∧ 0 < s.params.txLineMax := by omega
  cases i with
  | rxqPut d => exact rxqPut_indices h d
  | rxService => exact serviceRx_indices h
  | txService => exact serviceTx_indices h
  | rxqClear => exact ⟨hzero.1, hzero.1, h.2.2⟩
  | init => exact ⟨hzero.1, hzero.1, hzero.2⟩
  | tick | rxFlush | nmiTimeoutChk | escChk => simpa [effectOf, State.indicesInRange] using h
  | rdData | rdStatus | rdCommand | rdControl | wrData | wrStatus | wrCommand | wrControl => exact h

/-- A tick takes one off the countdown, in whole numbers from 0 up (R100). -/
@[simp] theorem State.countDown_countdown (s : State) : s.countDown.countdown = s.countdown - 1 := by
  unfold State.countDown
  split
  · rfl
  · omega

/-- I-d: the countdown is loaded with the gap, and otherwise only falls (R22). -/
theorem effectOf_countdown {s : State} (h : s.countdown ≤ s.params.rxGapCycles) (i : Instr) :
    (effectOf i s).countdown ≤ (effectOf i s).params.rxGapCycles := by
  cases i with
  | rdData => exact le_rfl
  | init => exact Nat.zero_le _
  | tick => simpa [effectOf] using h.trans (Nat.le_succ _)
  | rxqPut | rxService | rxFlush | nmiTimeoutChk | txService | escChk => simpa [effectOf] using h
  | rdStatus | rdCommand | rdControl | wrData | wrStatus | wrCommand | wrControl | rxqClear => exact h

/-- The count of '+' after TX_SERVICE: EscCount's in the data position, 0 after a byte consumed in command position. -/
theorem serviceTx_plusCount {s : State} (h : s.plusCount ≤ 3) : s.serviceTx.plusCount ≤ 3 := by
  cases serviceTx_branch s with
  | nothing hs => rwa [hs]
  | relayed hs => simpa [hs, State.onlineRelay] using plusCountAfter_le (s := s.emit _) h s.txByte
  | queued hs | delivered hs => simp [hs]
  | held hs => simpa [hs] using h

/-- ESC_CHK leaves the count of '+' or clears it (R141). -/
theorem checkEscape_plusCount_le (s : State) : s.checkEscape.plusCount ≤ s.plusCount := by
  unfold State.checkEscape
  split
  · exact Nat.zero_le _
  · exact le_rfl

/-- I-e: no operation takes the count of '+' above three (R28, R140). -/
theorem effectOf_plusCount {s : State} (h : s.plusCount ≤ 3) (i : Instr) : (effectOf i s).plusCount ≤ 3 := by
  cases i with
  | txService => exact serviceTx_plusCount h
  | init => exact Nat.zero_le _
  | escChk => exact (checkEscape_plusCount_le s).trans h
  | tick | rxqPut | rxService | rxFlush | nmiTimeoutChk => simpa [effectOf] using h
  | rdData | rdStatus | rdCommand | rdControl | wrData | wrStatus | wrCommand | wrControl | rxqClear => exact h

/-- The fields of I-f hold their values after INIT. -/
theorem quietFlags_of_resetStatus {s : State} (h : s.status = resetStatus s.params) : s.QuietFlags := by
  simp [State.QuietFlags, h]

/-- I-f: no operation but INIT writes the error and modem flags, and INIT writes the values of R36 (R18, R19). -/
theorem effectOf_quietFlags {s : State} (h : s.QuietFlags) (i : Instr) : (effectOf i s).QuietFlags := by
  by_cases hi : i = .init
  · subst hi
    exact quietFlags_of_resetStatus (State.initialise_status s)
  · have hkeep {f : Flag} := (effectOf_status i s).getFlag_eq hi (f := f)
    have hp := (effectOf_keeps i s).1
    simpa [State.QuietFlags, hkeep, hp] using h

/-- RX_FLUSH enters the phase Flushing only with bytes queued (R120). -/
theorem startFlush_flushing {s : State} (hinv : s.pollPhase = .flushing → 0 < s.used)
    (h : s.startFlush.pollPhase = .flushing) : 0 < s.used := by
  unfold State.startFlush at h
  split at h
  · assumption
  · exact hinv h

/-- The end of a flush leaves the phase Flushing only with bytes queued (R115, R121). -/
theorem endFlush_flushing {s : State} (h : s.endFlush.pollPhase = .flushing) : 0 < s.endFlush.used := by
  unfold State.endFlush at h ⊢
  split at h
  · cases h
  · rename_i hstay
    rw [if_neg hstay]
    exact Nat.pos_of_ne_zero fun hu => hstay ⟨h, hu⟩

/-- RX_SERVICE ends a flush that it leaves without bytes (R115, R121). -/
theorem serviceRx_flushing {s : State} (h : s.serviceRx.pollPhase = .flushing) : 0 < s.serviceRx.used := by
  rcases serviceRx_cases s with hs | ⟨-, hs⟩ <;> rw [hs] at h ⊢ <;> exact endFlush_flushing h

/-- TX_SERVICE neither enters the phase Flushing nor changes the queue in it (R130, R138). -/
theorem serviceTx_flushing {s : State} (h : s.serviceTx.pollPhase = .flushing) : s.serviceTx = s := by
  cases serviceTx_branch s with
  | nothing hs => exact hs
  | relayed hs | queued hs | delivered hs | held hs => simp [hs] at h

/-- I-g: a completed operation ends in the phase Flushing only with bytes queued (R120, R121). -/
theorem exec_flushing {i : Instr} {s t : State} (hinv : s.pollPhase = .flushing → 0 < s.used)
    (h : exec i s = .next t) : t.pollPhase = .flushing → 0 < t.used := by
  obtain ⟨hok, rfl⟩ := exec_eq_next.mp h
  obtain ⟨-, -, hphase, -, -⟩ := refusalOf_eq_none.mp hok
  intro hf
  cases i with
  | rxService => exact serviceRx_flushing hf
  | rxFlush =>
    rw [used_congr (s := s) (by simp [effectOf]) (by simp [effectOf]) (by simp [effectOf])]
    exact startFlush_flushing hinv hf
  | txService =>
    have hs : effectOf .txService s = s := serviceTx_flushing hf
    rw [hs] at hf ⊢
    exact hinv hf
  | rxqPut | rxqClear =>
    have hidle : s.pollPhase = .idle := by simpa [phaseAllows] using hphase
    simp [effectOf, hidle] at hf
  | init => cases hf
  | tick | nmiTimeoutChk | escChk =>
    rw [used_congr (s := s) (by simp [effectOf]) (by simp [effectOf]) (by simp [effectOf])]
    exact hinv (by simpa [effectOf] using hf)
  | rdData | rdStatus | rdCommand | rdControl | wrData | wrStatus | wrCommand | wrControl => exact hinv hf

/-- With legal parameters the index clauses I-b and I-c say that every index is in its space. -/
theorem ringOk_and_offset_iff {s : State} (h : s.params.wf) :
    s.RingOk ∧ s.offset ≤ s.params.txLineMax - 1 ↔ s.indicesInRange := by
  obtain ⟨-, -, -, hline, -, -⟩ := h
  constructor
  · rintro ⟨⟨hh, ht, -⟩, ho⟩
    exact ⟨hh, ht, by omega⟩
  · rintro ⟨hh, ht, ho⟩
    have := State.used_lt hh ht
    exact ⟨⟨hh, ht, by omega⟩, by omega⟩

/-- With legal parameters every completed operation keeps the invariants of R35. -/
theorem exec_consistent {i : Instr} {s t : State} (hwf : s.params.wf) (hc : s.Consistent)
    (h : exec i s = .next t) : t.Consistent := by
  obtain ⟨hflags, hring, hoff, hcount, hplus, hquiet, hflush⟩ := hc
  have hflush' := exec_flushing hflush h
  obtain ⟨-, rfl⟩ := exec_eq_next.mp h
  have hwf' : (effectOf i s).params.wf := by rwa [(effectOf_keeps i s).1]
  obtain ⟨hring', hoff'⟩ :=
    (ringOk_and_offset_iff hwf').mpr (effectOf_indices ((ringOk_and_offset_iff hwf).mp ⟨hring, hoff⟩) i)
  exact ⟨effectOf_flagsAgree hflags i, hring', hoff', effectOf_countdown hcount i, effectOf_plusCount hplus i,
    effectOf_quietFlags hquiet i, hflush'⟩

/-- No completed operation changes a parameter (R10). -/
theorem exec_params {i : Instr} {s t : State} (h : exec i s = .next t) : t.params = s.params := by
  obtain ⟨-, rfl⟩ := exec_eq_next.mp h
  exact (effectOf_keeps i s).1

/-- Settles O52: beginning an operation writes none of what the clauses speak of, and every operation keeps them. -/
theorem everyStepKeepsTheInvariants : Obligations.EveryStepKeepsTheInvariants := by
  intro s t hwf hc h
  refine step_keeps (P := fun u => u.params.wf ∧ u.Consistent) (fun _ _ _ hu => hu) ?_ ⟨hwf, hc⟩ h
  rintro i u v ⟨huwf, huc⟩ huv
  exact ⟨by rwa [exec_params huv], exec_consistent huwf huc huv⟩

/-- The values of R36 meet the invariants of R35, whatever the legal parameters are. -/
theorem resetOf_consistent {p : Params} (hp : p.wf) (inp : Inputs) (n : Nat) : (State.resetOf p inp n).Consistent := by
  have hi : (State.resetOf p inp n).indicesInRange := by
    obtain ⟨hring, -, -, hline, -, -⟩ := hp
    exact ⟨show 0 < p.rxCapacity by omega, show 0 < p.rxCapacity by omega, show 0 < p.txLineMax by omega⟩
  obtain ⟨hring, hoff⟩ := (ringOk_and_offset_iff (s := State.resetOf p inp n) hp).mpr hi
  exact ⟨by simp [State.FlagsAgree, State.resetOf], hring, hoff, Nat.zero_le _, Nat.zero_le _,
    quietFlags_of_resetStatus rfl, nofun⟩

/-- With equal indices nothing is queued (R31). -/
theorem State.used_of_head_eq_tail {s : State} (h : s.head = s.tail) : s.used = 0 := by
  simp [State.used, h]

/-- An empty queue and an empty line are written throughout. -/
theorem written_of_empty {s : State} (hring : s.head = s.tail) (hline : s.offset = 0) : s.Written := by
  simp [State.Written, State.used_of_head_eq_tail hring, hline]

/-- Settles O30: the open parameters are legal, the values of R36 meet R35 on them, and the memories, the queue and the
line are empty. -/
theorem resetMeetsTheInvariants : Obligations.ResetMeetsTheInvariants :=
  ⟨config_params_wf, resetOf_consistent config_params_wf _ _,
    ⟨Memory.wf_nil, Memory.below_nil _, Memory.wf_nil, Memory.below_nil _⟩, written_of_empty rfl rfl, nofun⟩

end Sys2Proof.Machine
end

section
/-! What has been written since INIT stays written while it is queued or accumulated (R30, R33), and what has been
emitted stays emitted (R34). -/

namespace Sys2Proof.Machine

/-- Written depends on the two memories, their indices and the parameters alone. -/
theorem written_of_keeps {s t : State} (hw : s.Written) (hq : t.rxq = s.rxq) (hh : t.head = s.head)
    (ht : t.tail = s.tail) (hl : t.line = s.line) (ho : t.offset = s.offset) (hp : t.params = s.params) :
    t.Written := by
  obtain ⟨hring, hline⟩ := hw
  refine ⟨written_congr hh ht hp hq hring, ?_⟩
  rw [hl, ho]
  exact hline

/-- The queue without its oldest byte is written if the queue was. -/
theorem dequeue_written {s : State} (hi : s.indicesInRange) (hu : 0 < s.used) (hw : s.Written) : s.dequeue.Written := by
  obtain ⟨hring, hline⟩ := hw
  have hused := dequeue_used hi hu
  refine ⟨fun k hk => ?_, by simpa using hline⟩
  rw [slot_after_take (s := s) (by simp) (by simp)]
  simpa using hring (k + 1) (by omega)

/-- RX_SERVICE queues nothing: what stays queued was queued before (R115). -/
theorem serviceRx_written {s : State} (hi : s.indicesInRange) (hw : s.Written) : s.serviceRx.Written := by
  rcases serviceRx_cases s with h | ⟨hu, h⟩ <;> rw [h]
  · exact written_of_keeps hw (by simp) (by simp) (by simp) (by simp) (by simp) (by simp)
  · exact written_of_keeps (dequeue_written hi hu hw) (by simp) (by simp) (by simp) (by simp) (by simp) (by simp)

/-- Accumulate leaves the queue and writes every place it counts (R135). -/
theorem accumulate_keeps_written {s : State} (hw : s.Written) (b : Byte) : (s.accumulate b).Written := by
  obtain ⟨hring, hline⟩ := hw
  exact ⟨written_congr (by simp) (by simp) (by simp) (by simp) hring, accumulate_written hline b⟩

/-- RxqPut writes the slot it queues and leaves the line (R111). -/
theorem rxqPut_keeps_written {s : State} (hi : s.indicesInRange) (hw : s.Written) (d : Byte) :
    (s.rxqPut d).Written := by
  obtain ⟨hring, hline⟩ := hw
  exact ⟨rxqPut_written hi d hring, by simpa using hline⟩

/-- TX_SERVICE writes the slot it queues and the places it accumulates (R130 to R135). -/
theorem serviceTx_written {s : State} (hi : s.indicesInRange) (hw : s.Written) : s.serviceTx.Written := by
  cases serviceTx_branch s with
  | nothing h => rwa [h]
  | relayed h =>
    rw [h]
    exact written_of_keeps hw (by simp) (by simp) (by simp) (by simp) (by simp) (by simp)
  | queued h =>
    rw [h]
    exact accumulate_keeps_written (rxqPut_keeps_written hi hw _) _
  | delivered h =>
    rw [h]
    have hd : (s.deliver s.txByte).Written := hw
    exact accumulate_keeps_written hd _
  | held h =>
    rw [h]
    exact hw

/-- Every completed operation keeps the queue and the line written. -/
theorem exec_written {i : Instr} {s t : State} (hw : s.Written) (h : exec i s = .next t) : t.Written := by
  obtain ⟨hok, rfl⟩ := exec_eq_next.mp h
  obtain ⟨-, -, -, -, hindices⟩ := refusalOf_eq_none.mp hok
  cases i with
  | rxqPut d => exact rxqPut_keeps_written (hindices rfl) hw d
  | rxService => exact serviceRx_written (hindices rfl) hw
  | txService => exact serviceTx_written (hindices rfl) hw
  | rxqClear => exact ⟨(written_of_empty (s := { s with head := 0, tail := 0, offset := 0 }) rfl rfl).1, hw.2⟩
  | init => exact written_of_empty rfl rfl
  | tick | rxFlush | nmiTimeoutChk | escChk =>
    apply written_of_keeps hw <;> simp [effectOf]
  | rdData | rdStatus | rdCommand | rdControl | wrData | wrStatus | wrCommand | wrControl => exact hw

/-- Settles O54: every operation keeps what is queued and accumulated written, and beginning one touches neither. -/
theorem everyStepKeepsTheQueueAndLineWritten : Obligations.EveryStepKeepsTheQueueAndLineWritten := by
  intro s t _ _ hw h
  exact step_keeps (P := fun u => u.Written) (fun _ _ _ hu => hu) (fun _ _ _ => exec_written) hw h

/-- RxqPut only adds events. -/
theorem rxqPut_events_prefix (s : State) (d : Byte) : s.events <+: (s.rxqPut d).events := by
  unfold State.rxqPut
  split
  · exact List.prefix_append _ _
  · exact List.prefix_rfl

/-- Accumulate only adds events. -/
theorem accumulate_events_prefix (s : State) (b : Byte) : s.events <+: (s.accumulate b).events := by
  obtain ⟨l, hl⟩ := accumulate_events s b
  exact hl ▸ List.prefix_append _ _

/-- TX_SERVICE only adds events. -/
theorem serviceTx_events_prefix (s : State) : s.events <+: s.serviceTx.events := by
  cases serviceTx_branch s with
  | nothing h => rw [h]
  | relayed h => simp [h]
  | queued h =>
    rw [h]
    exact (rxqPut_events_prefix s _).trans (accumulate_events_prefix _ _)
  | delivered h =>
    rw [h]
    exact accumulate_events_prefix (s.deliver s.txByte) _
  | held h => simp [h]

/-- No operation withdraws an event (R34). -/
theorem effectOf_events_prefix (i : Instr) (s : State) : s.events <+: (effectOf i s).events := by
  cases i with
  | rxqPut d => exact rxqPut_events_prefix s d
  | txService => exact serviceTx_events_prefix s
  | nmiTimeoutChk | escChk =>
    simp only [effectOf, State.checkTimeout, State.checkEscape]
    split
    · exact List.prefix_append _ _
    · exact List.prefix_rfl
  | tick | rxService | rxFlush => simp [effectOf]
  | rdData | rdStatus | rdCommand | rdControl | wrData | wrStatus | wrCommand | wrControl | rxqClear | init =>
    exact List.prefix_rfl

/-- Settles O57: relative to a fixed earlier state both clauses are kept by every operation. -/
theorem parametersAreFixedAndEventsOnlyGrow : Obligations.ParametersAreFixedAndEventsOnlyGrow := by
  intro s t h
  refine step_keeps (P := fun u => u.params = s.params ∧ s.events <+: u.events) (fun _ _ _ hu => hu) ?_
    ⟨rfl, List.prefix_rfl⟩ h
  rintro i u v ⟨hparams, hevents⟩ huv
  obtain ⟨-, rfl⟩ := exec_eq_next.mp huv
  exact ⟨(exec_params huv).trans hparams, hevents.trans (effectOf_events_prefix i u)⟩

end Sys2Proof.Machine
end

section
/-! What has no function: an operation that neither reads nor writes the control register, the command bits beside bit 1
or the number of the draw does the same with any other value there (R20, R21, U11). The three claims are one argument: a
relabelling of the three commutes with every operation that cannot see it. -/

namespace Sys2Proof.Machine

/-- Other values in the control register, the command register and the number of the draw. -/
def State.relabel (p q : Byte → Byte) (r : Nat → Nat) (s : State) : State :=
  { s with control := p s.control, command := q s.command, drawNo := r s.drawNo }

section Relabelling

variable {p q : Byte → Byte} {r : Nat → Nat}

/-- The number of the draw is the same, or nothing it stands for is still queued or accumulated. -/
abbrev State.DrawHidden (r : Nat → Nat) (s : State) : Prop := r s.drawNo = s.drawNo ∨ s.Written

/-- What keeps a relabelling out of an operation's sight: a register it reads or writes has its value there, and an
operation that tests `Ready` or reads a memory finds the same bit 1 and the same bytes. -/
def Unseen (p q : Byte → Byte) (r : Nat → Nat) (s : State) : Instr → Prop
  | .rdControl => p s.control = s.control
  | .wrControl d => p d = d
  | .rdCommand => q s.command = s.command
  | .wrCommand d => q d = d
  | .wrStatus _ => q s.params.cmdDefault = s.params.cmdDefault
  | .rxService => (q s.command).getLsbD Config.rxIntEnBit = s.command.getLsbD Config.rxIntEnBit ∧ s.DrawHidden r
  | .txService => (q s.command).getLsbD Config.rxIntEnBit = s.command.getLsbD Config.rxIntEnBit ∧ s.DrawHidden r
  | .init => False
  | .rdData => True
  | .rdStatus => True
  | .wrData _ => True
  | .tick => True
  | .rxqPut _ => True
  | .rxqClear => True
  | .rxFlush => True
  | .nmiTimeoutChk => True
  | .escChk => True

/-- The rights of an operation depend on none of the three. -/
theorem refusalOf_relabel (i : Instr) (s : State) : refusalOf i (s.relabel p q r) = refusalOf i s := rfl

/-- Of the command register `Ready` reads bit 1 alone (R32). -/
theorem ready_relabel {s : State}
    (hq : (q s.command).getLsbD Config.rxIntEnBit = s.command.getLsbD Config.rxIntEnBit) :
    (s.relabel p q r).ready = s.ready := by
  simp [State.relabel, State.ready, State.rxIntEnabled, hq]

/-- The number of the draw is the same, or nothing it stands for is among the first n places of the line. -/
abbrev State.LineHidden (r : Nat → Nat) (n : Nat) (s : State) : Prop :=
  r s.drawNo = s.drawNo ∨ ∀ a < n, (s.line.read a).isSome = true

/-- A written place of the line reads the same under every draw (R33). -/
theorem lineRead_relabel {s : State} {a : Nat} (h : r s.drawNo = s.drawNo ∨ (s.line.read a).isSome = true) :
    (s.relabel p q r).lineRead a = s.lineRead a := by
  rcases h with h | h
  · simp [State.relabel, State.lineRead, h]
  · obtain ⟨b, hb⟩ := Option.isSome_iff_exists.mp h
    simp [State.relabel, State.lineRead, hb]

/-- The oldest queued byte is the same under every draw (R30). -/
theorem rxqRead_tail_relabel {s : State} (hi : s.indicesInRange) (hu : 0 < s.used) (h : s.DrawHidden r) :
    (s.relabel p q r).rxqRead s.tail = s.rxqRead s.tail := by
  rcases h with h | ⟨hring, -⟩
  · simp [State.relabel, State.rxqRead, h]
  · obtain ⟨b, hb⟩ := Option.isSome_iff_exists.mp (hring 0 hu)
    rw [State.slot_zero hi.2.1] at hb
    simp [State.relabel, State.rxqRead, hb]

/-! ### The procedures that read none of the three -/

/-- A choice that reads none of the three is relabelled in both its branches. -/
theorem ite_relabel {P : Prop} [Decidable P] {x y x' y' : State} (hx : x' = x.relabel p q r)
    (hy : y' = y.relabel p q r) : (if P then x' else y') = (if P then x else y).relabel p q r := by
  rw [hx, hy, apply_ite (State.relabel p q r)]

theorem rxqPut_relabel (d : Byte) (s : State) : (s.relabel p q r).rxqPut d = (s.rxqPut d).relabel p q r :=
  ite_relabel rfl rfl

theorem endFlush_relabel (s : State) : (s.relabel p q r).endFlush = s.endFlush.relabel p q r := ite_relabel rfl rfl

theorem startFlush_relabel (s : State) : (s.relabel p q r).startFlush = s.startFlush.relabel p q r :=
  ite_relabel rfl rfl

theorem countDown_relabel (s : State) : (s.relabel p q r).countDown = s.countDown.relabel p q r :=
  ite_relabel rfl rfl

theorem checkTimeout_relabel (s : State) : (s.relabel p q r).checkTimeout = s.checkTimeout.relabel p q r :=
  ite_relabel rfl rfl

theorem checkEscape_relabel (s : State) : (s.relabel p q r).checkEscape = s.checkEscape.relabel p q r :=
  ite_relabel rfl rfl

theorem typeChar_relabel (c : Byte) (s : State) : (s.relabel p q r).typeChar c = (s.typeChar c).relabel p q r :=
  ite_relabel (ite_relabel rfl rfl) rfl

theorem clearPlus_consumed_relabel (s : State) :
    (s.relabel p q r).clearPlus.consumed = s.clearPlus.consumed.relabel p q r := rfl

theorem reportLength_relabel (c : Byte) (s : State) :
    (s.relabel p q r).reportLength c = (s.reportLength c).relabel p q r := ite_relabel rfl rfl

/-! ### The line, which is read when it closes -/

/-- A payload of written places is dispatched alike under every draw (R135). -/
theorem dispatchLine_relabel {n : Nat} {s : State} (h : s.LineHidden r n) :
    (s.relabel p q r).dispatchLine n = (s.dispatchLine n).relabel p q r := by
  have hpay : (s.relabel p q r).linePayload n = s.linePayload n :=
    List.map_congr_left fun a ha => lineRead_relabel (h.imp id fun hw => hw a (List.mem_range.mp ha))
  unfold State.dispatchLine
  rw [hpay]
  rfl

/-- The report of a length leaves the line and the draw. -/
theorem reportLength_line (c : Byte) (s : State) :
    (s.reportLength c).line = s.line ∧ (s.reportLength c).drawNo = s.drawNo := by
  unfold State.reportLength
  split <;> simp

/-- The line closes alike under every draw: the terminator is written, and the payload was (R135). -/
theorem closeLine_relabel {s : State} (h : s.LineHidden r s.offset) (c : Byte) :
    (s.relabel p q r).closeLine c = (s.closeLine c).relabel p q r := by
  have hpay : ((s.lineWrite (s.offset - 1) 0).reportLength c).LineHidden r (s.offset - 1) := by
    obtain ⟨hl, hd⟩ := reportLength_line c (s.lineWrite (s.offset - 1) 0)
    unfold State.LineHidden
    rw [hl, hd]
    refine h.imp id fun hw a ha => ?_
    simpa [show s.offset - 1 ≠ a by omega] using hw a (by omega)
  change (((s.lineWrite (s.offset - 1) 0).relabel p q r).reportLength c).dispatchLine (s.offset - 1) = _
  rw [reportLength_relabel]
  exact dispatchLine_relabel hpay

/-- Accumulate does the same under every draw (R135). -/
theorem accumulate_relabel {s : State} (h : s.LineHidden r s.offset) (b : Byte) :
    (s.relabel p q r).accumulate b = (s.accumulate b).relabel p q r := by
  have htyped : (s.typeChar (foldByte s.params b)).LineHidden r (s.typeChar (foldByte s.params b)).offset :=
    h.imp (by simp) fun hw => typeChar_written hw _
  have hclose : ((s.typeChar (foldByte s.params b)).relabel p q r).closeIfDone (foldByte s.params b) =
      ((s.typeChar (foldByte s.params b)).closeIfDone (foldByte s.params b)).relabel p q r :=
    ite_relabel (closeLine_relabel htyped _) rfl
  change (((s.relabel p q r).typeChar (foldByte s.params b)).closeIfDone (foldByte s.params b)).clearPlus.consumed = _
  rw [typeChar_relabel, hclose]
  exact clearPlus_consumed_relabel _

/-! ### The two service operations, which test `Ready` -/

/-- The oldest byte is taken alike under every draw (R115, R116). -/
theorem dequeue_relabel {s : State} (hi : s.indicesInRange) (hu : 0 < s.used) (h : s.DrawHidden r) :
    (s.relabel p q r).dequeue = s.dequeue.relabel p q r := by
  have hread : (s.relabel p q r).rxqRead (s.relabel p q r).tail = s.rxqRead s.tail := rxqRead_tail_relabel hi hu h
  unfold State.dequeue
  rw [hread]
  exact ite_relabel rfl rfl

/-- RX_SERVICE does the same under every relabelling that keeps bit 1 and hides the draw. -/
theorem serviceRx_relabel {s : State} (hi : s.indicesInRange) (h : Unseen p q r s .rxService) :
    (s.relabel p q r).serviceRx = s.serviceRx.relabel p q r := by
  obtain ⟨hbit, hdraw⟩ := h
  unfold State.serviceRx
  rw [ready_relabel hbit, endFlush_relabel]
  by_cases hu : 0 < s.used
  · rw [dequeue_relabel hi hu hdraw, endFlush_relabel]
    exact ite_relabel rfl rfl
  · have hu' : ¬ 0 < (s.relabel p q r).used := hu
    simp only [hu, hu', false_and, if_false]

/-- TX_SERVICE does the same under every relabelling that keeps bit 1 and hides the draw. -/
theorem serviceTx_relabel {s : State} (h : Unseen p q r s .txService) :
    (s.relabel p q r).serviceTx = s.serviceTx.relabel p q r := by
  obtain ⟨hbit, hdraw⟩ := h
  have hline : s.LineHidden r s.offset := hdraw.imp id And.right
  have hput : (s.rxqPut s.txByte).LineHidden r (s.rxqPut s.txByte).offset := by simpa [State.LineHidden] using hline
  have hdeliver : ((s.relabel p q r).deliver s.txByte).accumulate s.txByte =
      ((s.deliver s.txByte).accumulate s.txByte).relabel p q r := accumulate_relabel (s := s.deliver _) hline _
  have hqueue : ((s.relabel p q r).rxqPut s.txByte).accumulate s.txByte =
      ((s.rxqPut s.txByte).accumulate s.txByte).relabel p q r := by
    rw [rxqPut_relabel, accumulate_relabel hput]
  have hbrowser : (s.relabel p q r).browserEcho s.txByte = (s.browserEcho s.txByte).relabel p q r := by
    unfold State.browserEcho
    rw [ready_relabel hbit]
    exact ite_relabel hdeliver rfl
  exact ite_relabel rfl (ite_relabel rfl (ite_relabel hbrowser hqueue))

/-- An operation that cannot see a relabelling commutes with it. -/
theorem effectOf_relabel {i : Instr} {s : State} (hi : usesIndices i = true → s.indicesInRange)
    (h : Unseen p q r s i) : effectOf i (s.relabel p q r) = (effectOf i s).relabel p q r := by
  cases i with
  | rxService => exact serviceRx_relabel (hi rfl) h
  | txService => exact serviceTx_relabel h
  | tick => exact countDown_relabel s
  | rxqPut d => exact rxqPut_relabel d s
  | rxFlush => exact startFlush_relabel s
  | nmiTimeoutChk => exact checkTimeout_relabel s
  | escChk => exact checkEscape_relabel s
  | init => exact h.elim
  | rdControl | wrControl | rdCommand | wrCommand | wrStatus =>
    simp only [Unseen] at h
    simp [effectOf, State.relabel, State.readOut, State.busValue, h]
  | rdData | rdStatus | wrData | rxqClear => rfl

/-- An operation that cannot see a relabelling is carried out alike in the relabelled state. -/
theorem exec_relabel {i : Instr} {s t : State} (hu : Unseen p q r s i) (h : exec i s = .next t) :
    exec i (s.relabel p q r) = .next (t.relabel p q r) := by
  obtain ⟨hok, rfl⟩ := exec_eq_next.mp h
  obtain ⟨-, -, -, -, hindices⟩ := refusalOf_eq_none.mp hok
  exact exec_of_allowed ((refusalOf_relabel i s).trans hok) (effectOf_relabel hindices hu)

end Relabelling

/-- Settles O55: with the queue and the line written another number of the draw is unseen. -/
theorem ringAndLineDrawsAreUnobservable : Obligations.RingAndLineDrawsAreUnobservable := by
  intro i s t n _ _ hw hi h
  have hu : Unseen id id (fun _ => n) s i := by
    cases i with
    | init => exact hi rfl
    | rxService | txService => exact ⟨rfl, .inr hw⟩
    | _ => trivial
  simpa [State.relabel] using exec_relabel hu h

/-- Settles O42: another control byte is unseen by all but the two operations that name the register, and INIT. -/
theorem controlRegisterHasNoFunction : Obligations.ControlRegisterHasNoFunction := by
  intro i s t c hread hwrite hinit h
  have hu : Unseen (fun _ => c) id id s i := by
    cases i with
    | rdControl => exact absurd rfl hread
    | wrControl d => exact absurd rfl (hwrite d)
    | init => exact hinit rfl
    | rxService | txService => exact ⟨rfl, .inl rfl⟩
    | _ => trivial
  simpa [State.relabel] using exec_relabel hu h

/-- Settles O43: another command byte with the same bit 1 is unseen by all but the operations that name the register. -/
theorem otherCommandBitsHaveNoFunction : Obligations.OtherCommandBitsHaveNoFunction := by
  intro i s t c hread hwrite hreset hinit hbit h
  have hu : Unseen id (fun _ => c) id s i := by
    cases i with
    | rdCommand => exact absurd rfl hread
    | wrCommand d => exact absurd rfl (hwrite d)
    | wrStatus d => exact absurd rfl (hreset d)
    | init => exact hinit rfl
    | rxService | txService => exact ⟨hbit, .inl rfl⟩
    | _ => trivial
  simpa [State.relabel] using exec_relabel hu h

end Sys2Proof.Machine
end

section
/-! The data register read twice, and the two memories of R40: strictly rising addresses inside their spaces. -/

namespace Sys2Proof.Machine

/-- RD_DATA's five writes in one update: the two receive flags are bits 7 and 3 of the status byte (R80, R14). -/
theorem effectOf_rdData (s : State) :
    effectOf .rdData s =
      { s with
        dataOut := some s.rxByte
        status := s.status &&& 0x77#8
        nmiAsserted := false
        countdown := s.params.rxGapCycles } := by
  rw [← putRxFlags_false]
  rfl

/-- Nothing RD_DATA writes bears on the right to issue it (R88). -/
theorem refusalOf_rdData_effectOf_rdData (s : State) :
    refusalOf .rdData (effectOf .rdData s) = refusalOf .rdData s := rfl

/-- A second RD_DATA writes over the first what already stands there (R45). -/
theorem effectOf_rdData_idem (s : State) : effectOf .rdData (effectOf .rdData s) = effectOf .rdData s := by
  simp [effectOf_rdData, BitVec.and_assoc]

/-- Settles O7: the second read may be issued where the first was, and its effect is idempotent. -/
theorem secondDataReadRepeatsTheFirst : Obligations.SecondDataReadRepeatsTheFirst := by
  intro s t h
  obtain ⟨hok, rfl⟩ := exec_eq_next.mp h
  have hok' : refusalOf .rdData (effectOf .rdData s) = none := (refusalOf_rdData_effectOf_rdData s).trans hok
  exact ⟨exec_of_allowed hok' (effectOf_rdData_idem s), rfl⟩

/-- The form of the memories depends on them and the parameters alone. -/
theorem memoryOk_of_keeps {s t : State} (hm : s.MemoryOk) (hq : t.rxq = s.rxq) (hl : t.line = s.line)
    (hp : t.params = s.params) : t.MemoryOk := by
  unfold State.MemoryOk
  rwa [hq, hl, hp]

/-- A byte stored in a slot of the ring keeps the form of the memories. -/
theorem rxqWrite_memoryOk {s : State} {a : Nat} (hm : s.MemoryOk) (ha : a < s.params.rxCapacity) (b : Byte) :
    (s.rxqWrite a b).MemoryOk := by
  obtain ⟨hqwf, hqlt, hline⟩ := hm
  exact ⟨Memory.wf_write hqwf a b, Memory.below_write hqlt ha b, hline⟩

/-- A byte stored in a place of the line keeps the form of the memories. -/
theorem lineWrite_memoryOk {s : State} {a : Nat} (hm : s.MemoryOk) (ha : a < s.params.txLineMax) (b : Byte) :
    (s.lineWrite a b).MemoryOk := by
  obtain ⟨hqwf, hqlt, hlwf, hllt⟩ := hm
  exact ⟨hqwf, hqlt, Memory.wf_write hlwf a b, Memory.below_write hllt ha b⟩

/-- RxqPut stores at the write index, or drops the byte (R111). -/
theorem rxqPut_memoryOk {s : State} (hm : s.MemoryOk) (hi : s.indicesInRange) (d : Byte) :
    (s.rxqPut d).MemoryOk := by
  obtain ⟨hhead, -, -⟩ := hi
  unfold State.rxqPut
  split
  · exact hm
  · exact rxqWrite_memoryOk hm hhead d

/-- A character is stored at the line's index, or erases without a store (R135). -/
theorem typeChar_memoryOk {s : State} (hm : s.MemoryOk) (ho : s.offset < s.params.txLineMax) (c : Byte) :
    (s.typeChar c).MemoryOk := by
  unfold State.typeChar
  split_ifs
  · exact hm
  · exact hm
  · exact lineWrite_memoryOk hm ho c

/-- A line that closes stores its terminator below its index, and the index may be the size of a full buffer (R135). -/
theorem closeIfDone_memoryOk {s : State} (hm : s.MemoryOk) (ho : s.offset - 1 < s.params.txLineMax) (c : Byte) :
    (s.closeIfDone c).MemoryOk := by
  unfold State.closeIfDone
  split
  · exact memoryOk_of_keeps (lineWrite_memoryOk hm ho 0) (by simp) (by simp) (by simp)
  · exact hm

/-- Accumulate stores the character and the terminator inside the line (R135). -/
theorem accumulate_memoryOk {s : State} (hm : s.MemoryOk) (ho : s.offset < s.params.txLineMax) (b : Byte) :
    (s.accumulate b).MemoryOk := by
  obtain ⟨htyped, -⟩ := typeChar_offset ho (foldByte s.params b)
  have hterm : (s.typeChar (foldByte s.params b)).offset - 1 < (s.typeChar (foldByte s.params b)).params.txLineMax := by
    rw [show (s.typeChar (foldByte s.params b)).params = s.params by simp]
    omega
  exact closeIfDone_memoryOk (typeChar_memoryOk hm ho _) hterm _

/-- TX_SERVICE stores in the ring by RxqPut and in the line by Accumulate (R130 to R135). -/
theorem serviceTx_memoryOk {s : State} (hm : s.MemoryOk) (hi : s.indicesInRange) : s.serviceTx.MemoryOk := by
  cases serviceTx_branch s with
  | nothing h => rwa [h]
  | relayed h => exact memoryOk_of_keeps hm (by simp [h]) (by simp [h]) (by simp [h])
  | queued h =>
    rw [h]
    obtain ⟨-, -, hoff⟩ := rxqPut_indices hi s.txByte
    exact accumulate_memoryOk (rxqPut_memoryOk hm hi _) hoff _
  | delivered h =>
    rw [h]
    obtain ⟨-, -, hoff⟩ := hi
    exact accumulate_memoryOk (s := s.deliver s.txByte) hm hoff _
  | held h =>
    rw [h]
    exact hm

/-- Every completed operation keeps the form of the memories: one that stores runs with its indices in range (R43). -/
theorem exec_memoryOk {i : Instr} {s t : State} (hm : s.MemoryOk) (h : exec i s = .next t) : t.MemoryOk := by
  obtain ⟨hok, rfl⟩ := exec_eq_next.mp h
  obtain ⟨-, -, -, -, hindices⟩ := refusalOf_eq_none.mp hok
  cases i with
  | rxqPut d => exact rxqPut_memoryOk hm (hindices rfl) d
  | txService => exact serviceTx_memoryOk hm (hindices rfl)
  | init => exact ⟨Memory.wf_nil, Memory.below_nil _, Memory.wf_nil, Memory.below_nil _⟩
  | tick | rxService | rxFlush | nmiTimeoutChk | escChk =>
    apply memoryOk_of_keeps hm <;> simp [effectOf]
  | rdData | rdStatus | rdCommand | rdControl | wrData | wrStatus | wrCommand | wrControl | rxqClear => exact hm

/-- Settles O53: every operation keeps the form of the memories, and beginning one touches neither. -/
theorem everyStepKeepsMemoryCanonical : Obligations.EveryStepKeepsMemoryCanonical := by
  intro s t _ hm h
  exact step_keeps (P := fun u => u.MemoryOk) (fun _ _ _ hu => hu) (fun _ _ _ => exec_memoryOk) hm h

end Sys2Proof.Machine
end

section
/-! What the decoder answers, said once for every descriptor: the operation the descriptor's fields are those of, or a refusal
of a descriptor that is reserved (R61, R62, R65). The round trips and the reserved words follow. -/

namespace Sys2Proof

/-! ### The encoder (R62) -/

/-- The reads are the rows of format BR, in the order of the register addresses (R11). -/
theorem encodeFields_readOp (a : BitVec 2) :
    encodeFields (readOp (.ofBits a)) = { op := 0x0, z := 0, addr := a, data := 0 } := by
  revert a
  decide

/-- The writes are the rows of format BW, in the order of the register addresses (R11). -/
theorem encodeFields_writeOp (d : Byte) (a : BitVec 2) :
    encodeFields (writeOp d (.ofBits a)) = { op := 0x1, z := 0, addr := a, data := d } := by
  have haddr : ∀ a : BitVec 2, a = 0 ∨ a = 1 ∨ a = 2 ∨ a = 3 := by decide
  rcases haddr a with rfl | rfl | rfl | rfl <;> rfl

/-- No operation has a reserved descriptor (R65). -/
theorem wf_encodeFields (i : Instr) : (encodeFields i).wf = true := by
  cases i <;> rfl

/-- The decoder reads back the fields of every operation: its row is the one the operation's OP selects. -/
theorem decodeFields_encodeFields (i : Instr) : decodeFields (encodeFields i) = .ok i := by
  cases i <;> rfl

/-! ### Reserved descriptors (R65) -/

/-- The groups without a format are 0xA to 0xE. -/
theorem ofOp_eq_none_iff (op : BitVec 4) : Format.ofOp op = none ↔ 0xA ≤ op.toNat ∧ op.toNat ≤ 0xE := by
  revert op
  decide

/-- ADDR is an operand of the bus groups only. -/
theorem hasAddr_iff {op : BitVec 4} {fmt : Format} (h : Format.ofOp op = some fmt) :
    fmt.hasAddr = false ↔ op.toNat ≠ 0 ∧ op.toNat ≠ 1 := by
  revert op fmt
  decide

/-- DATA is an operand of the bus writes and of RXQ_PUT only. -/
theorem hasData_iff {op : BitVec 4} {fmt : Format} (h : Format.ofOp op = some fmt) :
    fmt.hasData = false ↔ op.toNat ≠ 1 ∧ op.toNat ≠ 3 := by
  revert op fmt
  decide

/-- A descriptor of a reserved group is reserved. -/
theorem not_wf_of_op {f : Descriptor} (h : Format.ofOp f.op = none) : f.wf = false := by
  simp [Descriptor.wf, Descriptor.opOk, h]

/-- A descriptor whose Z is not 0 is reserved in every group. -/
theorem not_wf_of_z {f : Descriptor} (h : f.z ≠ 0) : f.wf = false := by
  have hz : f.zOk = false := beq_false_of_ne h
  simp [Descriptor.wf, hz]

/-- Beside its group, a descriptor is reserved for its Z, or for an ADDR or DATA that its format does not have. -/
theorem not_wf_iff_of_op {f : Descriptor} {fmt : Format} (h : Format.ofOp f.op = some fmt) :
    f.wf = false ↔ f.z ≠ 0 ∨ (fmt.hasAddr = false ∧ f.addr ≠ 0) ∨ (fmt.hasData = false ∧ f.data ≠ 0) := by
  simp only [Descriptor.wf, Descriptor.opOk, Descriptor.zOk, Descriptor.addrOk, Descriptor.dataOk, h]
  cases fmt.hasAddr <;> cases fmt.hasData <;> simp [imp_iff_not_or, or_assoc]

/-- The reserved descriptors by the values of their fields. -/
theorem not_wf_iff (f : Descriptor) :
    f.wf = false ↔ (0xA ≤ f.op.toNat ∧ f.op.toNat ≤ 0xE) ∨ f.z.toNat ≠ 0 ∨
      (f.op.toNat ≠ 0 ∧ f.op.toNat ≠ 1 ∧ f.addr.toNat ≠ 0) ∨ (f.op.toNat ≠ 1 ∧ f.op.toNat ≠ 3 ∧ f.data.toNat ≠ 0) := by
  have hop := ofOp_eq_none_iff f.op
  cases h : Format.ofOp f.op with
  | none => exact iff_of_true (not_wf_of_op h) (.inl (hop.mp h))
  | some fmt =>
    have hgroup : ¬(0xA ≤ f.op.toNat ∧ f.op.toNat ≤ 0xE) := fun hr => by simp [hop.mpr hr] at h
    rw [not_wf_iff_of_op h, hasAddr_iff h, hasData_iff h]
    simp only [hgroup, false_or, and_assoc, ne_eq, BitVec.toNat_eq, BitVec.ofNat_eq_ofNat, BitVec.toNat_ofNat,
      Nat.zero_mod]

/-! ### The decoder's answers (R62, R65) -/

/-- What an answer says of the descriptor: it is that of the operation, or it is reserved. -/
inductive Decoded (f : Descriptor) : Except DecodeError Instr → Prop
  | ok {i : Instr} (h : encodeFields i = f) : Decoded f (.ok i)
  | reserved {e : DecodeError} (h : f.wf = false) : Decoded f (.error e)

/-- A descriptor is made of its fields. -/
theorem Descriptor.mk_eq {f : Descriptor} {op : BitVec 4} {z addr : BitVec 2} {data : Byte} (hop : f.op = op)
    (hz : f.z = z) (ha : f.addr = addr) (hd : f.data = data) : { op, z, addr, data } = f := by
  subst hop hz ha hd
  rfl

/-- Format BR: the read at ADDR, or a DATA that is not 0. -/
theorem decodeBusRead_decoded {f : Descriptor} (hop : f.op = 0x0) (hz : f.z = 0) : Decoded f (decodeBusRead f) := by
  have hfmt : Format.ofOp f.op = some .br := by rw [hop]; rfl
  unfold decodeBusRead
  split
  next hd => exact .ok ((encodeFields_readOp f.addr).trans (Descriptor.mk_eq hop hz rfl hd))
  next hd => exact .reserved ((not_wf_iff_of_op hfmt).mpr (.inr (.inr ⟨rfl, hd⟩)))

/-- Format PB: the operation with its byte, or an ADDR that is not 0. -/
theorem decodePollByte_decoded {f : Descriptor} (hop : f.op = 0x3) (hz : f.z = 0) :
    Decoded f (decodePollByte f (.rxqPut f.data)) := by
  have hfmt : Format.ofOp f.op = some .pb := by rw [hop]; rfl
  unfold decodePollByte
  split
  next ha => exact .ok (Descriptor.mk_eq hop hz ha rfl)
  next ha => exact .reserved ((not_wf_iff_of_op hfmt).mpr (.inr (.inl ⟨rfl, ha⟩)))

/-- Formats C0 and P0: the operation of the descriptor's OP, or an ADDR or DATA that is not 0. -/
theorem decodeBare_decoded {f : Descriptor} {fmt : Format} {i : Instr} (hop : f.op = (encodeFields i).op) (hz : f.z = 0)
    (hi : encodeFields i = { op := (encodeFields i).op, z := 0, addr := 0, data := 0 })
    (hfmt : Format.ofOp (encodeFields i).op = some fmt) (haddr : fmt.hasAddr = false) (hdata : fmt.hasData = false) :
    Decoded f (decodeBare f i) := by
  rw [← hop] at hfmt
  unfold decodeBare
  split
  next ha =>
    split
    next hd => exact .ok (hi.trans (Descriptor.mk_eq hop hz ha hd))
    next hd => exact .reserved ((not_wf_iff_of_op hfmt).mpr (.inr (.inr ⟨hdata, hd⟩)))
  next ha => exact .reserved ((not_wf_iff_of_op hfmt).mpr (.inr (.inl ⟨haddr, ha⟩)))

/-- Every answer of the decoder, by Z and then by the rows of R62. -/
theorem decodeFields_decoded (f : Descriptor) : Decoded f (decodeFields f) := by
  unfold decodeFields
  split
  next hz =>
    split
    next h => exact decodeBusRead_decoded (BitVec.eq_of_toNat_eq h) hz
    next h =>
      have hop : f.op = 0x1 := BitVec.eq_of_toNat_eq h
      exact .ok ((encodeFields_writeOp f.data f.addr).trans (Descriptor.mk_eq hop hz rfl rfl))
    next h => exact decodeBare_decoded (BitVec.eq_of_toNat_eq h) hz rfl rfl rfl rfl
    next h => exact decodePollByte_decoded (BitVec.eq_of_toNat_eq h) hz
    iterate 7 next h => exact decodeBare_decoded (BitVec.eq_of_toNat_eq h) hz rfl rfl rfl rfl
    next => exact .reserved (not_wf_of_op (by simp [Format.ofOp, *]))
  next hz => exact .reserved (not_wf_of_z hz)

/-- The decoder answers with an operation exactly on the operation's own fields. -/
theorem decodeFields_eq_ok_iff {f : Descriptor} {i : Instr} : decodeFields f = .ok i ↔ encodeFields i = f := by
  constructor
  · intro h
    have hf := decodeFields_decoded f
    rw [h] at hf
    cases hf with
    | ok hi => exact hi
  · rintro rfl
    exact decodeFields_encodeFields i

/-- The decoder refuses exactly the reserved descriptors. -/
theorem decodeFields_eq_error_iff (f : Descriptor) : (∃ e, decodeFields f = .error e) ↔ f.wf = false := by
  have hf := decodeFields_decoded f
  generalize decodeFields f = answer at hf
  cases hf with
  | ok hi => simp [← hi, wf_encodeFields]
  | reserved hwf => simp [hwf]

/-! ### The obligations -/

/-- Settles O46: a word has the fields it was made of, and each operation's fields decode to it. -/
theorem decodeInvertsEncode : Obligations.DecodeInvertsEncode := by
  intro i
  calc decode (encode i) = decodeFields (encodeFields i) := congrArg decodeFields (Descriptor.ofWord_toWord _)
    _ = .ok i := decodeFields_encodeFields i

/-- Settles O47: the operation's fields are the word's, and a word is made of its fields. -/
theorem encodeInvertsDecode : Obligations.EncodeInvertsDecode := by
  intro w i h
  have hfields : encodeFields i = Descriptor.ofWord w := decodeFields_eq_ok_iff.mp h
  calc encode i = (Descriptor.ofWord w).toWord := congrArg Descriptor.toWord hfields
    _ = w := Descriptor.toWord_ofWord w

/-- Settles O48: the refused descriptors are the reserved ones, with the fields read as digits of the word. -/
theorem exactlyTheReservedWordsAreRefused : Obligations.ExactlyTheReservedWordsAreRefused := by
  intro w
  obtain ⟨hop, hz, haddr, hdata⟩ := Descriptor.ofWord_toNat w
  rw [← hop, ← hz, ← haddr, ← hdata, ← not_wf_iff]
  exact decodeFields_eq_error_iff (.ofWord w)

/-- A word of two bytes decodes to the operation that has the first in OP, Z and ADDR, and the second in DATA (R61). -/
theorem decode_append {op : BitVec 4} {z addr : BitVec 2} {b d : Byte} {i : Instr}
    (hi : encodeFields i = { op, z, addr, data := d }) (hb : op ++ z ++ addr = b) : decode (b ++ d) = .ok i := by
  have hword : encode i = b ++ d := by
    rw [encode, hi, ← hb]
    rfl
  exact hword ▸ decodeInvertsEncode i

/-- Settles O49: each row's word is what its operation encodes to. -/
theorem tableWordsDecodeAsTheTableSays : Obligations.TableWordsDecodeAsTheTableSays := by
  have row {w : Desc} {i : Instr} (h : encode i = w) : decode w = .ok i := h ▸ decodeInvertsEncode i
  exact ⟨⟨row rfl, row rfl, row rfl, row rfl⟩,
    fun d => ⟨decode_append rfl rfl, decode_append rfl rfl, decode_append rfl rfl, decode_append rfl rfl,
      decode_append rfl rfl⟩,
    row rfl, row rfl, row rfl, row rfl, row rfl, row rfl, row rfl, row rfl⟩

end Sys2Proof
end

section
/-! The eight operations of the BUS agent, which run in every phase (R80 to R88): the next state of each, and the frame they
share. -/

namespace Sys2Proof.Machine

/-- A bus operation completes with its effect, in every phase (R88). -/
theorem exec_of_onBus {i : Instr} {s t : State} (h : s.OnBus) (hi : agentOf i = .bus) (ht : effectOf i s = t) :
    exec i s = .next t := exec_of_allowed (bus_allowed h hi) ht

/-- WR_DATA's two writes in one update: txEmpty is bit 4 of the status byte (R84, R14). -/
theorem effectOf_wrData (d : Byte) (s : State) :
    effectOf (.wrData d) s = { s with txByte := d, status := s.status &&& 0xEF#8 } := by
  rw [← putTxEmpty_false]
  rfl

/-- The elements a bus operation may write: the Register File, the countdown, the interrupt assertion and `data_out`. -/
theorem effectOf_bus_frame {i : Instr} (hi : agentOf i = .bus) (s : State) :
    effectOf i s =
      { s with
        txByte := (effectOf i s).txByte
        status := (effectOf i s).status
        command := (effectOf i s).command
        control := (effectOf i s).control
        countdown := (effectOf i s).countdown
        nmiAsserted := (effectOf i s).nmiAsserted
        dataOut := (effectOf i s).dataOut } := by
  cases i with
  | rdData | rdStatus | rdCommand | rdControl | wrData | wrStatus | wrCommand | wrControl => rfl
  | tick | rxqPut | rxqClear | rxService | rxFlush | nmiTimeoutChk | txService | escChk | init => cases hi

/-- Of the status byte the bus operations write bits 7 and 3, by RD_DATA, and bit 4, by WR_DATA: the masks 0x77 and 0xEF
both keep what 0x67 keeps. -/
theorem effectOf_bus_status_masked {i : Instr} (hi : agentOf i = .bus) (s : State) :
    (effectOf i s).status &&& 0x67#8 = s.status &&& 0x67#8 := by
  cases i with
  | rdData => simp [effectOf_rdData, BitVec.and_assoc]
  | wrData d => simp [effectOf_wrData, BitVec.and_assoc]
  | rdStatus | rdCommand | rdControl | wrStatus | wrCommand | wrControl => rfl
  | tick | rxqPut | rxqClear | rxService | rxFlush | nmiTimeoutChk | txService | escChk | init => cases hi

/-- Settles O6: the operation completes with its effect, and the effect keeps the frame and the other status bits. -/
theorem busOperationsTouchOnlyTheRegisterFile : Obligations.BusOperationsTouchOnlyTheRegisterFile := by
  intro i s hi h
  exact ⟨effectOf i s, exec_of_onBus h hi rfl, effectOf_bus_frame hi s, effectOf_bus_status_masked hi s⟩

/-- Settles O1: RD_DATA's effect does not ask whether a byte was pending. -/
theorem rdDataReturnsByteAndArmsGap : Obligations.RdDataReturnsByteAndArmsGap :=
  fun s h => exec_of_onBus h rfl (effectOf_rdData s)

/-- Settles O2: the effect of the three reads is `State.readOut` alone. -/
theorem otherReadsReturnStoredByteOnly : Obligations.OtherReadsReturnStoredByteOnly :=
  fun _ h => ⟨exec_of_onBus h rfl rfl, exec_of_onBus h rfl rfl, exec_of_onBus h rfl rfl⟩

/-- Settles O3: WR_DATA's effect does not ask whether a byte was waiting. -/
theorem wrDataLatchesByteAndClearsTxEmpty : Obligations.WrDataLatchesByteAndClearsTxEmpty :=
  fun d s h => exec_of_onBus h rfl (effectOf_wrData d s)

/-- Settles O4: WR_STATUS's effect does not use its byte. -/
theorem wrStatusResetsCommandOnly : Obligations.WrStatusResetsCommandOnly :=
  fun _ _ h => exec_of_onBus h rfl rfl

/-- Settles O5: each of the two writes stores its byte whole. -/
theorem wrCommandAndWrControlStoreTheByte : Obligations.WrCommandAndWrControlStoreTheByte :=
  fun _ _ h => ⟨exec_of_onBus h rfl rfl, exec_of_onBus h rfl rfl⟩

end Sys2Proof.Machine
end

section
/-! The cycle countdown and the interrupt timer (R100 to R105): the next state of TICK and of NMI_TIMEOUT_CHK, and the
gap that the countdown keeps between a data read and the next assertion of `nmi` (R102). -/

namespace Sys2Proof.Machine

/-! ### The two operations -/

/-- Settles O8: TICK's effect takes one off a countdown above 0 and is the identity at 0. -/
theorem tickLowersTheCountdownByOne : Obligations.TickLowersTheCountdownByOne := by
  intro s h
  refine ⟨fun hpos => exec_of_allowed (tick_allowed h) (if_pos hpos), fun hzero => ?_⟩
  exact exec_of_allowed (tick_allowed h) (if_neg (by omega))

/-- A timeout that fires writes the receive flags, bits 7 and 3, the assertion and the report port (R103, R14). -/
theorem withdraw_raise (c : Condition) (s : State) :
    s.withdraw.raise c =
      { s with status := s.status &&& 0x77#8, nmiAsserted := false, events := s.events ++ [.report c] } := by
  rw [← putRxFlags_false]
  rfl

/-- Settles O9: the check fires on bit 7 and the strict modular comparison, and is the identity otherwise. -/
theorem timeoutWithdrawsAnUnservicedInterrupt : Obligations.TimeoutWithdrawsAnUnservicedInterrupt := by
  intro s h
  refine ⟨fun hfires => exec_of_allowed (timeout_allowed h) ?_, fun hquiet => ?_⟩
  · exact (if_pos hfires).trans (withdraw_raise .nmiTimeout s)
  · exact exec_of_allowed (timeout_allowed h) (if_neg hquiet)

/-! ### What raises the interrupt, and what moves the countdown -/

/-- RX_SERVICE raises `nmi` only from a Ready block (R115). -/
theorem serviceRx_nmiAsserted {s : State} (h : s.serviceRx.nmiAsserted = true) :
    s.nmiAsserted = true ∨ s.ready = true := by
  by_cases hr : s.ready = true
  · exact .inr hr
  · have hs : s.serviceRx = s.endFlush := if_neg fun hc => hr hc.2
    exact .inl (by simpa [hs] using h)

/-- The browser echo raises `nmi` only from a Ready block (R134). -/
theorem browserEcho_nmiAsserted {s : State} {b : Byte} (h : (s.browserEcho b).nmiAsserted = true) :
    s.nmiAsserted = true ∨ s.ready = true := by
  by_cases hr : s.ready = true
  · exact .inr hr
  · have hs : s.browserEcho b = s.enterPhase .immWait := if_neg hr
    exact .inl (by simpa [hs] using h)

/-- TX_SERVICE raises `nmi` only from a Ready block: of its branches the browser echo alone delivers (R130 to R134). -/
theorem serviceTx_nmiAsserted {s : State} (h : s.serviceTx.nmiAsserted = true) :
    s.nmiAsserted = true ∨ s.ready = true := by
  unfold State.serviceTx State.routeTx State.offlineEcho at h
  split_ifs at h
  · exact .inl h
  · exact .inl (by simpa using h)
  · exact browserEcho_nmiAsserted h
  · exact .inl (by simpa using h)

/-- NMI_TIMEOUT_CHK never raises `nmi` (R103). -/
theorem checkTimeout_nmiAsserted {s : State} (h : s.checkTimeout.nmiAsserted = true) : s.nmiAsserted = true := by
  unfold State.checkTimeout at h
  split at h
  · simp at h
  · exact h

/-- After a completed operation `nmi` is asserted only if it was before or the block was Ready (R32, R156). -/
theorem effectOf_nmiAsserted {i : Instr} {s : State} (h : (effectOf i s).nmiAsserted = true) :
    s.nmiAsserted = true ∨ s.ready = true := by
  cases i with
  | rxService => exact serviceRx_nmiAsserted h
  | txService => exact serviceTx_nmiAsserted h
  | nmiTimeoutChk => exact .inl (checkTimeout_nmiAsserted h)
  | rdData | init => cases h
  | tick | rxqPut | rxFlush | escChk => exact .inl (by simpa [effectOf] using h)
  | rdStatus | rdCommand | rdControl | wrData | wrStatus | wrCommand | wrControl | rxqClear => exact .inl h

/-- A Ready block's countdown has run out (R32). -/
theorem countdown_of_ready {s : State} (h : s.ready = true) : s.countdown = 0 := by
  simp only [State.ready, Bool.and_eq_true, beq_iff_eq] at h
  exact h.2

/-- TICK lowers the countdown, RD_DATA and INIT load it, and no other operation writes it (R22). -/
theorem effectOf_countdown_eq (i : Instr) (s : State) :
    (effectOf i s).countdown =
      match i with
      | .tick => s.countdown - 1
      | .rdData => s.params.rxGapCycles
      | .init => 0
      | _ => s.countdown := by
  cases i with
  | tick => exact State.countDown_countdown s
  | rxqPut | rxService | rxFlush | nmiTimeoutChk | txService | escChk => simp [effectOf]
  | rdData | rdStatus | rdCommand | rdControl | wrData | wrStatus | wrCommand | wrControl | rxqClear | init => rfl

/-! ### The gap over a run -/

/-- While the countdown runs `nmi` is not asserted, and the countdown is at most the gap (R102, R35 I-d). -/
def State.GapHeld (s : State) : Prop :=
  (s.nmiAsserted = true → s.countdown = 0) ∧ s.countdown ≤ s.params.rxGapCycles

/-- RD_DATA withdraws the interrupt and loads the countdown with the gap (R80). -/
theorem gapHeld_of_rdData {r s : State} (h : exec .rdData r = .next s) :
    s.GapHeld ∧ s.countdown = s.params.rxGapCycles := by
  obtain ⟨-, rfl⟩ := exec_eq_next.mp h
  exact ⟨⟨nofun, le_rfl⟩, rfl⟩

/-- Every operation keeps the gap: `nmi` is only raised at countdown 0, and only RD_DATA, which withdraws it, loads more. -/
theorem effectOf_gapHeld {s : State} (h : s.GapHeld) (i : Instr) : (effectOf i s).GapHeld := by
  obtain ⟨hnmi, hle⟩ := h
  refine ⟨fun hafter => ?_, effectOf_countdown hle i⟩
  have hzero : s.countdown = 0 := (effectOf_nmiAsserted hafter).elim hnmi countdown_of_ready
  cases i with
  | rdData => cases hafter
  | _ => simp [effectOf_countdown_eq, hzero]

/-- Every step keeps the gap. -/
theorem step_gapHeld {s t : State} (hs : s.GapHeld) (h : step s = .next t) : t.GapHeld := by
  refine step_keeps (P := State.GapHeld) (fun _ _ _ hu => hu) (fun i u v hu huv => ?_) hs h
  obtain ⟨-, rfl⟩ := exec_eq_next.mp huv
  exact effectOf_gapHeld hu i

/-- An operation other than INIT lowers the countdown by at most one, and only TICK does (R22, R100). -/
theorem countdown_le_effectOf {i : Instr} {s : State} (h : s.countdown ≤ s.params.rxGapCycles) (hi : i ≠ .init) :
    s.countdown ≤ (effectOf i s).countdown + [encode i].count 0x2000#16 := by
  rw [effectOf_countdown_eq]
  cases i with
  | init => exact absurd rfl hi
  | tick =>
    have hword : [encode .tick].count 0x2000#16 = 1 := by decide
    rw [hword]
    exact le_tsub_add
  | rdData => exact h.trans (Nat.le_add_right _ _)
  | _ => exact Nat.le_add_right _ _

/-- A run without INIT from a state that keeps the gap to one that asserts `nmi` issues at least as many TICKs as the
countdown asks for. -/
theorem countdown_le_ticks_of_run {k : Nat} {s t : State} (hs : s.GapHeld) (hinit : 0xF000#16 ∉ s.wordsOf k)
    (hrun : Host.Core.run Sys2Proof.core k s = .next t) (ht : t.nmiAsserted = true) :
    s.countdown ≤ s.countOf k 0x2000#16 := by
  induction k generalizing s with
  | zero =>
    cases hrun
    exact (hs.1 ht).trans_le (Nat.zero_le _)
  | succ k ih =>
    obtain ⟨m, hstep, hrest⟩ := run_succ.mp hrun
    have hm : m.GapHeld := step_gapHeld hs hstep
    rcases step_eq_next hstep with ⟨hnil, rfl⟩ | ⟨o, rest, i, hcons, hdecode, hexec⟩
    · have hwait := ih hm (by simp [wordsOf_nil hnil]) hrest
      simpa [State.countOf, wordsOf_nil hnil] using hwait
    · have hwords := wordsOf_cons hcons (exec_begin_schedule hexec) k
      rw [← encodeInvertsDecode o.word i hdecode] at hwords
      rw [hwords, List.mem_cons, not_or] at hinit
      obtain ⟨hfirst, hlater⟩ := hinit
      have hi : i ≠ .init := by
        rintro rfl
        exact hfirst rfl
      obtain ⟨-, hmeq⟩ := exec_eq_next.mp hexec
      calc s.countdown
        _ ≤ m.countdown + [encode i].count 0x2000#16 := by
            rw [hmeq]
            exact countdown_le_effectOf (s := s.begin o rest) hs.2 hi
        _ ≤ m.countOf k 0x2000#16 + [encode i].count 0x2000#16 := Nat.add_le_add_right (ih hm hlater hrest) _
        _ = s.countOf (k + 1) 0x2000#16 := by
            rw [State.countOf, State.countOf, hwords, Nat.add_comm, ← List.count_append, List.singleton_append]

/-- Settles O58: the read leaves the gap in the countdown, and a run to an asserted `nmi` has a TICK for each of it. -/
theorem gapSeparatesAReadFromTheNextInterrupt : Obligations.GapSeparatesAReadFromTheNextInterrupt := by
  intro k r s t hread hinit hrun ht
  obtain ⟨hs, hgap⟩ := gapHeld_of_rdData hread
  exact hgap ▸ countdown_le_ticks_of_run hs hinit hrun ht

end Sys2Proof.Machine
end

section
/-! The Rx queue's operations (R111 to R122): the next state of each, the end of a flush, and the ring as the first-in
first-out list of R114. -/

namespace Sys2Proof.Machine

/-! ### RXQ_PUT, RXQ_CLEAR, RX_FLUSH -/

/-- In phase Idle every POLL operation but RX_SERVICE may be issued, whatever the page prompt (R117, R164, R43). -/
theorem idle_allowed {i : Instr} {s : State} (h : s.OnPoll) (hidle : s.pollPhase = .idle) (hi : agentOf i = .poll)
    (hne : i ≠ .rxService) (hindices : usesIndices i = true → s.indicesInRange) : refusalOf i s = none := by
  refine poll_allowed h hi ?_ ?_ hindices <;> rw [hidle]
  · cases i <;> rfl
  · cases i with
    | rxService => exact absurd rfl hne
    | _ => rfl

/-- A slot of the ring reads as written, and every other slot as before. -/
theorem rxqRead_rxqWrite (s : State) (a : Nat) (d : Byte) (x : Nat) :
    (s.rxqWrite a d).rxqRead x = if a = x then d else s.rxqRead x := by
  simp only [State.rxqRead, State.rxqWrite_rxq, State.rxqWrite_drawNo, Memory.read_write]
  split <;> rfl

/-- Settles O10: RxqPut's two branches, and the store at the write index read back. -/
theorem rxqPutStoresAtHeadOrReportsOverflow : Obligations.RxqPutStoresAtHeadOrReportsOverflow := by
  intro d s h hidle hi
  have hok : refusalOf (.rxqPut d) s = none := idle_allowed h hidle rfl nofun fun _ => hi
  refine ⟨fun hfull => exec_of_allowed hok (if_pos hfull), fun hroom => ?_⟩
  have hread := rxqRead_rxqWrite s s.head d
  refine ⟨_, exec_of_allowed hok (if_neg (by omega)), rfl, (hread _).trans (if_pos rfl), fun a ha => ?_⟩
  exact (hread a).trans (if_neg ha.symm)

/-- Settles O11: the effect is the two writes, and equal indices queue nothing. -/
theorem rxqClearResetsTheIndices : Obligations.RxqClearResetsTheIndices :=
  fun _ h hidle =>
    ⟨exec_of_allowed (idle_allowed h hidle rfl nofun nofun) rfl, State.used_of_head_eq_tail rfl⟩

/-- Settles O13: the two branches of the flush's start. -/
theorem rxFlushStartsOnlyWithBytesQueued : Obligations.RxFlushStartsOnlyWithBytesQueued := by
  intro s h hidle hi
  have hok : refusalOf .rxFlush s = none := idle_allowed h hidle rfl nofun fun _ => hi
  exact ⟨fun hu => exec_of_allowed hok (if_pos hu), fun hu => exec_of_allowed hok (if_neg (by omega))⟩

/-! ### RX_SERVICE -/

/-- With a byte queued and the block Ready, RX_SERVICE takes a byte (R115). -/
theorem serviceRx_of_ready {s : State} (hu : 0 < s.used) (hr : s.ready = true) :
    s.serviceRx = s.dequeue.endFlush := if_pos ⟨hu, hr⟩

/-- Otherwise it takes none (R115). -/
theorem serviceRx_of_not_ready {s : State} (h : ¬ (0 < s.used ∧ s.ready = true)) : s.serviceRx = s.endFlush :=
  if_neg h

/-- Deliver's writes in one update: the two receive flags are bits 7 and 3 of the status byte (R118, R14). -/
theorem deliver_eq (b : Byte) (s : State) :
    s.deliver b =
      { s with
        rxByte := b, status := s.status ||| 0x88#8, nmiAsserted := true, nmiAssertTime := s.inputs.nowUs } := by
  rw [← putRxFlags_true]
  rfl

/-- In the phases of RX_SERVICE the end of a flush leaves the phase Idle on an empty queue (R115, R121). -/
theorem endFlush_eq {s : State} (h : s.pollPhase = .idle ∨ s.pollPhase = .flushing) :
    s.endFlush = { s with pollPhase := if s.used = 0 then .idle else s.pollPhase } := by
  by_cases hu : s.used = 0
  · rw [if_pos hu]
    rcases h with hidle | hflush
    · rw [← hidle]
      exact if_neg fun hend => by simp [hidle] at hend
    · exact if_pos ⟨hflush, hu⟩
  · rw [if_neg hu]
    exact if_neg fun hend => hu hend.2

/-- After a byte is taken the flush ends if it was the last one (R115, R121). -/
theorem dequeue_endFlush_eq {s : State} (h : s.pollPhase = .idle ∨ s.pollPhase = .flushing) (hi : s.indicesInRange)
    (hu : 0 < s.used) :
    s.dequeue.endFlush = { s.dequeue with pollPhase := if s.used = 1 then .idle else s.pollPhase } := by
  have hused : s.dequeue.used + 1 = s.used := dequeue_used hi hu
  have hphase : s.dequeue.pollPhase = s.pollPhase := by simp
  rw [endFlush_eq (hphase ▸ h), hphase, ← hused]
  simp

/-- Settles O12: RX_SERVICE's branches, with the byte at the read index delivered or dropped. -/
theorem rxServiceDeliversOneByteWhenReady : Obligations.RxServiceDeliversOneByteWhenReady := by
  intro s h
  have hok := rx_allowed h
  obtain ⟨-, hp, hi⟩ := h
  replace hp : s.pollPhase = .idle ∨ s.pollPhase = .flushing := hp.imp_left And.left
  refine ⟨fun hu hr hb => exec_of_allowed hok ?_, fun hu hr hb => exec_of_allowed hok ?_, fun hn => ?_⟩
  · change s.serviceRx = _
    rw [serviceRx_of_ready hu hr, dequeue_endFlush_eq hp hi hu, dequeue_nonzero hb, deliver_eq]
    rfl
  · change s.serviceRx = _
    rw [serviceRx_of_ready hu hr, dequeue_endFlush_eq hp hi hu, dequeue_zero hb]
    rfl
  · exact exec_of_allowed hok ((serviceRx_of_not_ready hn).trans (endFlush_eq hp))

/-! ### The end of a flush -/

/-- The end of a flush on the phase Flushing, by what is still queued (R121). -/
theorem endFlush_pollPhase {s : State} (h : s.pollPhase = .flushing) :
    s.endFlush.pollPhase = if s.endFlush.used = 0 then .idle else .flushing := by
  have hused : s.endFlush.used = s.used := used_congr (by simp) (by simp) (by simp)
  rw [hused, endFlush_eq (.inr h), h]

/-- RX_SERVICE ends a flush exactly when it leaves the queue empty (R115, R121). -/
theorem serviceRx_pollPhase {s : State} (h : s.pollPhase = .flushing) :
    s.serviceRx.pollPhase = if s.serviceRx.used = 0 then .idle else .flushing := by
  rcases serviceRx_cases s with hs | ⟨-, hs⟩ <;> rw [hs]
  · exact endFlush_pollPhase h
  · exact endFlush_pollPhase (by simpa using h)

/-- In the phase Flushing no operation but RX_SERVICE and INIT writes the phase (R121, R164). -/
theorem exec_flushing_pollPhase {i : Instr} {s t : State} (h : exec i s = .next t) (hp : s.pollPhase = .flushing)
    (hrx : i ≠ .rxService) (hinit : i ≠ .init) : t.pollPhase = .flushing := by
  obtain ⟨hok, rfl⟩ := exec_eq_next.mp h
  obtain ⟨-, -, hphase, -, -⟩ := refusalOf_eq_none.mp hok
  rw [hp] at hphase
  cases i with
  | rxService => exact absurd rfl hrx
  | init => exact absurd rfl hinit
  | rxqPut | rxqClear | rxFlush | txService | escChk => cases hphase
  | tick | nmiTimeoutChk => simpa [effectOf] using hp
  | rdData | rdStatus | rdCommand | rdControl | wrData | wrStatus | wrCommand | wrControl => exact hp

/-- Settles O44: only RX_SERVICE and INIT write the phase Flushing, and RX_SERVICE by whether the queue is empty. -/
theorem flushEndsWhenTheQueueIsEmpty : Obligations.FlushEndsWhenTheQueueIsEmpty := by
  intro i s t h hp
  by_cases hrx : i = .rxService
  · subst hrx
    obtain ⟨-, rfl⟩ := exec_eq_next.mp h
    have hphase : (effectOf .rxService s).pollPhase = _ := serviceRx_pollPhase hp
    refine ⟨fun hleft _ => ?_, fun _ hu => hphase.trans (if_pos hu)⟩
    have hu : (effectOf .rxService s).used = 0 := by
      by_contra hne
      exact hleft (hphase.trans (if_neg hne))
    exact ⟨rfl, hu, hphase.trans (if_pos hu)⟩
  · exact ⟨fun hleft hinit => absurd (exec_flushing_pollPhase h hp hrx hinit) hleft, fun hi => absurd hi hrx⟩

/-! ### The list of queued bytes -/

/-- With equal indices the list is empty (R31). -/
theorem queued_of_head_eq_tail {s : State} (h : s.head = s.tail) : s.queued = [] := by
  rw [← List.length_eq_zero_iff, State.queued_length, State.used_of_head_eq_tail h]

/-- RX_SERVICE on the list of queued bytes (R115). -/
theorem serviceRx_queued {s : State} (hi : s.indicesInRange) :
    s.serviceRx.queued = queueAfter .rxService s s.queued := by
  change _ = if s.ready then s.queued.tail else s.queued
  by_cases h : 0 < s.used ∧ s.ready = true
  · obtain ⟨hu, hr⟩ := h
    rw [serviceRx_of_ready hu hr, if_pos hr]
    exact queued_after_take hi hu (by simp) (by simp) (by simp) (by simp) (by simp)
  · have hstay : s.endFlush.queued = s.queued := queued_congr (by simp) (by simp) (by simp) (by simp) (by simp)
    rw [serviceRx_of_not_ready h, hstay]
    split
    next hr =>
      have hlen : s.queued.length = 0 := by
        rw [State.queued_length]
        by_contra hu
        exact h ⟨Nat.pos_of_ne_zero hu, hr⟩
      rw [List.eq_nil_of_length_eq_zero hlen, List.tail_nil]
    next => rfl

/-- Accumulate leaves the list of queued bytes (R135). -/
theorem accumulate_queued (b : Byte) (s : State) : (s.accumulate b).queued = s.queued :=
  queued_congr (by simp) (by simp) (by simp) (by simp) (by simp)

/-- The browser echo goes past the queue (R134). -/
theorem browserEcho_queued (b : Byte) (s : State) : (s.browserEcho b).queued = s.queued := by
  unfold State.browserEcho
  split
  · exact accumulate_queued b (s.deliver b)
  · rfl

/-- Of the rows of R132 only the offline echo queues the byte (R131, R133, R134). -/
theorem routeTx_queued {s : State} (hi : s.indicesInRange) (b : Byte) :
    (s.routeTx b).queued =
      if s.inputs.mode = .offline ∧ s.inputs.connected = false then enqueue s.params.rxCapacity b s.queued
      else s.queued := by
  cases hm : s.inputs.mode with
  | browser => simp [routeTx_browser hm, browserEcho_queued]
  | offline =>
    cases hc : s.inputs.connected with
    | true =>
      rw [routeTx_online hm hc]
      exact queued_congr (by simp) (by simp) (by simp) (by simp) (by simp)
    | false =>
      rw [routeTx_offline hm hc, State.offlineEcho, accumulate_queued, rxqPut_queued hi]
      simp

/-- TX_SERVICE on the list of queued bytes (R130, R133). -/
theorem serviceTx_queued {s : State} (hi : s.indicesInRange) :
    s.serviceTx.queued = queueAfter .txService s s.queued := by
  unfold State.serviceTx queueAfter
  cases s.flag .txEmpty with
  | true => simp
  | false => simpa using routeTx_queued hi s.txByte

/-- What each operation does to the list of queued bytes. -/
theorem effectOf_queued {s : State} (hi : s.indicesInRange) (i : Instr) :
    (effectOf i s).queued = queueAfter i s s.queued := by
  cases i with
  | rxqPut d => exact rxqPut_queued hi d
  | rxService => exact serviceRx_queued hi
  | txService => exact serviceTx_queued hi
  | rxqClear | init => exact queued_of_head_eq_tail rfl
  | tick | rxFlush | nmiTimeoutChk | escChk => apply queued_congr <;> simp [effectOf]
  | rdData | rdStatus | rdCommand | rdControl | wrData | wrStatus | wrCommand | wrControl => rfl

/-- A Ready block's receive register is free (R32). -/
theorem rxFull_of_ready {s : State} (h : s.ready = true) : s.flag .rxFull = false := by
  obtain ⟨-, -, hfull, -⟩ := (readyIsTheFourConditions s).mp h
  exact hfull

/-- A Ready RX_SERVICE hands over the byte at the read index: a zero byte is dropped, any other is in rxByte (R115,
R116). -/
theorem serviceRx_hands_over {s : State} (hr : s.ready = true) (hu : 0 < s.used) :
    (s.rxqRead s.tail ≠ 0 → s.serviceRx.rxByte = s.rxqRead s.tail ∧ s.serviceRx.flag .rxFull = true) ∧
      (s.rxqRead s.tail = 0 → s.serviceRx.rxByte = s.rxByte ∧ s.serviceRx.flag .rxFull = false) := by
  rw [serviceRx_of_ready hu hr]
  refine ⟨fun hb => ?_, fun hb => ?_⟩
  · simp [dequeue_nonzero hb]
  · have hfull := rxFull_of_ready hr
    simpa [dequeue_zero hb] using hfull

/-- Settles O15: each operation acts on the list as `queueAfter` says and keeps the indices in range, so that one slot
stays free; what a Ready RX_SERVICE hands over is the byte at the read index, the first of the list. -/
theorem ringIsAFirstInFirstOutQueue : Obligations.RingIsAFirstInFirstOutQueue := by
  intro i s t hi h
  obtain ⟨-, rfl⟩ := exec_eq_next.mp h
  have hqueued := effectOf_queued hi i
  have hi' := effectOf_indices hi i
  have ⟨hhead, htail, _⟩ := hi'
  have hlt := State.used_lt hhead htail
  refine ⟨hqueued, State.queued_length _, by omega, hi', ?_⟩
  rintro b q rfl hr hbq
  obtain ⟨hu, rfl⟩ := queued_cons hi hbq
  refine ⟨?_, serviceRx_hands_over hr hu⟩
  rw [hqueued, hbq]
  simp [queueAfter, hr]

end Sys2Proof.Machine
end

section
/-! The pending byte over a run (R119), and the way from a data read to the next delivery (R102, R115). -/

namespace Sys2Proof.Machine

/-! ### A pending byte -/

/-- The byte b is pending since the stamp u: the interrupt is asserted, and the receive flags agree (R35 I-a). -/
structure State.Pending (b : Byte) (u : Time) (s : State) : Prop where
  asserted : s.nmiAsserted = true
  agree : s.FlagsAgree
  byte : s.rxByte = b
  stamp : s.nmiAssertTime = u

/-- A block with a pending byte is not Ready (R32, R119). -/
theorem State.Pending.not_ready {b : Byte} {u : Time} {s : State} (h : s.Pending b u) : s.ready = false := by
  have hpending : s.flag .interruptPending = true := h.agree.2.trans h.asserted
  simp only [State.ready, hpending]
  simp

/-- The elements of a pending byte untouched, it is still pending. -/
theorem effectOf_pending_of_keeps {b : Byte} {u : Time} {i : Instr} {s : State} (h : s.Pending b u)
    (hn : (effectOf i s).nmiAsserted = s.nmiAsserted) (hb : (effectOf i s).rxByte = s.rxByte)
    (hu : (effectOf i s).nmiAssertTime = s.nmiAssertTime) : (effectOf i s).Pending b u :=
  ⟨hn.trans h.asserted, effectOf_flagsAgree h.agree i, hb.trans h.byte, hu.trans h.stamp⟩

/-- Without Ready the browser echo is held, and no other branch of TX_SERVICE delivers (R130 to R134). -/
theorem serviceTx_of_not_ready {s : State} (h : s.ready = false) :
    s.serviceTx.nmiAsserted = s.nmiAsserted ∧ s.serviceTx.rxByte = s.rxByte ∧
      s.serviceTx.nmiAssertTime = s.nmiAssertTime := by
  unfold State.serviceTx State.routeTx State.browserEcho State.offlineEcho
  simp only [h, Bool.false_eq_true, if_false]
  split_ifs <;> simp

/-- A timeout that reports nothing has not fired (R103). -/
theorem checkTimeout_of_count_eq {s : State}
    (h : s.checkTimeout.events.count (.report .nmiTimeout) = s.events.count (.report .nmiTimeout)) :
    s.checkTimeout = s := by
  unfold State.checkTimeout at h ⊢
  split
  next hfires => simp [hfires] at h
  next => rfl

/-- A pending byte stays over every operation but RD_DATA, INIT and a timeout that fires (R119, R156). -/
theorem effectOf_pending {b : Byte} {u : Time} {i : Instr} {s : State} (h : s.Pending b u) (hread : i ≠ .rdData)
    (hinit : i ≠ .init)
    (hcount : (effectOf i s).events.count (.report .nmiTimeout) = s.events.count (.report .nmiTimeout)) :
    (effectOf i s).Pending b u := by
  cases i with
  | rdData => exact absurd rfl hread
  | init => exact absurd rfl hinit
  | rxService =>
    have hstay : effectOf .rxService s = s.endFlush :=
      serviceRx_of_not_ready fun hc => by simp [h.not_ready] at hc
    apply effectOf_pending_of_keeps h <;> simp [hstay]
  | txService =>
    obtain ⟨hn, hb, hu⟩ := serviceTx_of_not_ready h.not_ready
    exact effectOf_pending_of_keeps h hn hb hu
  | nmiTimeoutChk =>
    have hquiet : effectOf .nmiTimeoutChk s = s := checkTimeout_of_count_eq hcount
    rwa [hquiet]
  | tick | rxqPut | rxFlush | escChk => apply effectOf_pending_of_keeps h <;> simp [effectOf]
  | rdStatus | rdCommand | rdControl | wrData | wrStatus | wrCommand | wrControl | rxqClear =>
    exact effectOf_pending_of_keeps h rfl rfl rfl

/-- Over a run nothing emitted is withdrawn (R34). -/
theorem run_events_prefix {k : Nat} {s t : State} (h : Host.Core.run Sys2Proof.core k s = .next t) :
    s.events <+: t.events := by
  induction k generalizing s with
  | zero =>
    cases h
    exact List.prefix_rfl
  | succ k ih =>
    obtain ⟨m, hstep, hrest⟩ := run_succ.mp h
    exact (parametersAreFixedAndEventsOnlyGrow s m hstep).2.trans (ih hrest)

/-- The words of a run begin with that of the operation it executes first (R62). -/
theorem wordsOf_of_exec {s t : State} {o : Issue} {rest : List Issue} {i : Instr} {k : Nat}
    (hcons : s.schedule = o :: rest) (hdecode : decode o.word = .ok i) (hexec : exec i (s.begin o rest) = .next t) :
    s.wordsOf (k + 1) = encode i :: t.wordsOf k := by
  rw [wordsOf_cons hcons (exec_begin_schedule hexec), encodeInvertsDecode o.word i hdecode]

/-- Where an operation's word does not occur, the first operation is another, and it does not occur later. -/
theorem ne_and_not_mem_of_encode_not_mem {i j : Instr} {ws : List Desc} (h : encode j ∉ encode i :: ws) :
    i ≠ j ∧ encode j ∉ ws := by
  obtain ⟨hne, hws⟩ := not_or.mp (mt List.mem_cons.mpr h)
  exact ⟨fun hij => hne (hij ▸ rfl), hws⟩

/-- A pending byte stays over every run without RD_DATA and INIT in which no timeout fires (R119). -/
theorem run_pending {b : Byte} {u : Time} {k : Nat} {s t : State} (h : s.Pending b u)
    (hread : encode .rdData ∉ s.wordsOf k) (hinit : encode .init ∉ s.wordsOf k)
    (hrun : Host.Core.run Sys2Proof.core k s = .next t)
    (hcount : t.events.count (.report .nmiTimeout) = s.events.count (.report .nmiTimeout)) : t.Pending b u := by
  induction k generalizing s with
  | zero =>
    cases hrun
    exact h
  | succ k ih =>
    obtain ⟨m, hstep, hrest⟩ := run_succ.mp hrun
    have hfirst := (parametersAreFixedAndEventsOnlyGrow s m hstep).2.sublist.count_le (.report .nmiTimeout)
    have hlater := (run_events_prefix hrest).sublist.count_le (.report .nmiTimeout)
    rcases step_eq_next hstep with ⟨hnil, rfl⟩ | ⟨o, rest, i, hcons, hdecode, hexec⟩
    · exact ih h (by simp [wordsOf_nil hnil]) (by simp [wordsOf_nil hnil]) hrest hcount
    · rw [wordsOf_of_exec hcons hdecode hexec] at hread hinit
      obtain ⟨hread_now, hread_later⟩ := ne_and_not_mem_of_encode_not_mem hread
      obtain ⟨hinit_now, hinit_later⟩ := ne_and_not_mem_of_encode_not_mem hinit
      obtain ⟨-, rfl⟩ := exec_eq_next.mp hexec
      have hbegin : (s.begin o rest).Pending b u := ⟨h.asserted, h.agree, h.byte, h.stamp⟩
      have hquiet : (effectOf i (s.begin o rest)).events.count (.report .nmiTimeout) =
          (s.begin o rest).events.count (.report .nmiTimeout) := by
        rw [State.begin_events]
        omega
      exact ih (effectOf_pending hbegin hread_now hinit_now hquiet) hread_later hinit_later hrest (by omega)

/-- Settles O59: the byte pending at the start is pending at the end. -/
theorem noDeliveryOverAPendingByte : Obligations.NoDeliveryOverAPendingByte := by
  intro k s t hn hagree hread hinit hrun hcount
  have hs : s.Pending s.rxByte s.nmiAssertTime := ⟨hn, hagree, rfl, rfl⟩
  have ht := run_pending hs hread hinit hrun hcount
  exact ⟨ht.asserted, ht.byte, ht.stamp⟩

/-! ### A read, the gap, and a delivery -/

/-- An issue by an operation's own agent runs that operation (R46, R62). -/
theorem step_of_issueOf {s : State} {inp : Inputs} {i : Instr} {rest : List Issue}
    (h : s.schedule = issueOf inp i :: rest) : step s = exec i (s.begin (issueOf inp i) rest) :=
  stepRunsTheNextOperation s _ rest i h (decodeInvertsEncode i)

/-- A run after a run is a run. -/
theorem run_add {j k : Nat} {s m t : State} (hj : Host.Core.run Sys2Proof.core j s = .next m)
    (hk : Host.Core.run Sys2Proof.core k m = .next t) : Host.Core.run Sys2Proof.core (j + k) s = .next t := by
  induction j generalizing s with
  | zero =>
    cases hj
    rwa [Nat.zero_add]
  | succ j ih =>
    obtain ⟨n, hstep, hrest⟩ := run_succ.mp hj
    rw [Nat.succ_add]
    exact run_succ.mpr ⟨n, hstep, ih hrest⟩

/-- TICK's one write (R100). -/
theorem effectOf_tick (s : State) : effectOf .tick s = { s with countdown := s.countdown - 1 } := by
  rw [← State.countDown_countdown]
  change s.countDown = _
  unfold State.countDown
  split <;> rfl

/-- A row of TICKs takes its length off the countdown; beside it only the traces of an operation change: its agent, its
inputs, `data_out` and the schedule (R100, R101). -/
theorem run_pseudoTicks {inp : Inputs} {rest : List Issue} (n : Nat) {s : State} (hinit : s.initialised = true)
    (h : s.schedule = pseudoTicks inp n ++ rest) :
    ∃ t : State, Host.Core.run Sys2Proof.core n s = .next t ∧
      t = { s with
            agent := t.agent, inputs := t.inputs, dataOut := t.dataOut
            countdown := s.countdown - n, schedule := rest } := by
  induction n generalizing s with
  | zero =>
    have hrest : s.schedule = rest := h
    exact ⟨s, rfl, by rw [← hrest]; rfl⟩
  | succ n ih =>
    have hcons : s.schedule = issueOf inp .tick :: (pseudoTicks inp n ++ rest) := h
    have htick := (step_of_issueOf hcons).trans (exec_of_allowed (tick_allowed ⟨hinit, rfl⟩) (effectOf_tick _))
    obtain ⟨t, hrun, ht⟩ := ih
      (s := { s.begin (issueOf inp .tick) (pseudoTicks inp n ++ rest) with countdown := s.countdown - 1 }) hinit rfl
    refine ⟨t, run_succ.mpr ⟨_, htick, hrun⟩, ht.trans ?_⟩
    rw [Nat.add_comm n 1, ← Nat.sub_sub]
    rfl

/-- The state in which the issue o runs as the last of a schedule, after a data read and as many TICKs as the read asks
for: the interrupt is withdrawn and the countdown has run out. -/
def State.afterGap (o : Issue) (s : State) : State :=
  { s.begin o [] with status := s.status &&& 0x77#8, nmiAsserted := false, countdown := 0 }

/-- A data read and RX_GAP_CYCLES TICKs lead to that state, however long the countdown and whatever was pending before
(R80, R100). -/
theorem run_read_and_gap {inp : Inputs} {i : Instr} {s : State} (hinit : s.initialised = true)
    (h : s.schedule = issueOf inp .rdData :: pseudoTicks inp s.params.rxGapCycles ++ [issueOf inp i]) :
    ∃ m : State, Host.Core.run Sys2Proof.core (s.params.rxGapCycles + 1) s = .next m ∧
      step m = exec i (s.afterGap (issueOf inp i)) := by
  let r := s.begin (issueOf inp .rdData) (pseudoTicks inp s.params.rxGapCycles ++ [issueOf inp i])
  have hread : step s = .next (effectOf .rdData r) :=
    (step_of_issueOf h).trans (exec_of_onBus ⟨hinit, rfl⟩ rfl rfl)
  obtain ⟨m, hticks, hm⟩ := run_pseudoTicks (s := effectOf .rdData r) s.params.rxGapCycles hinit rfl
  have hbegin : m.begin (issueOf inp i) [] = s.afterGap (issueOf inp i) := by
    rw [hm, effectOf_rdData]
    simp [r, State.begin, State.afterGap]
  refine ⟨m, run_succ.mpr ⟨_, hread, hticks⟩, ?_⟩
  rw [← hbegin]
  exact step_of_issueOf (by rw [hm])

/-- With the receive interrupt enabled the block is then Ready (R32). -/
theorem afterGap_ready {s : State} (h : s.command.getLsbD 1 = false) (o : Issue) : (s.afterGap o).ready = true := by
  have hpending : (s.status &&& 0x77#8).getLsbD 7 = false := by simp
  have hfull : (s.status &&& 0x77#8).getLsbD 3 = false := by simp
  exact (readyIsTheFourConditions _).mpr ⟨h, hpending, hfull, rfl⟩

/-- Settles O60: after the read and the gap the block is Ready, and RX_SERVICE delivers the byte at the read index. -/
theorem readThenGapThenServiceDelivers : Obligations.ReadThenGapThenServiceDelivers := by
  intro inp s hinit hidle hpage hi hu hb hen hsched
  obtain ⟨m, hrun, hstep⟩ := run_read_and_gap hinit hsched
  have hmay : (s.afterGap (issueOf inp .rxService)).MayServiceRx := ⟨⟨hinit, rfl⟩, .inl ⟨hidle, hpage⟩, hi⟩
  obtain ⟨hdelivers, -, -⟩ := rxServiceDeliversOneByteWhenReady _ hmay
  have hlast := hstep.trans (hdelivers hu (afterGap_ready hen _) hb)
  have hwhole := run_add (k := 1) hrun (run_succ.mpr ⟨_, hlast, rfl⟩)
  refine ⟨_, hwhole, rfl, rfl, rfl, ?_, rfl, ?_⟩
  · simp [State.afterGap, getFlag, Flag.pos]
  · exact Nat.eq_sub_of_add_eq (And.left (used_after_take (s := s) hi.1 hi.2.1 hu rfl rfl rfl))

end Sys2Proof.Machine
end

section
/-! The hangup request over a run (R140 to R142): three '+' have been forwarded for each request, and those that the
detector has counted since have been forwarded too. -/

namespace Sys2Proof.Machine

/-- What every step keeps, every run keeps. -/
theorem run_keeps {P : State → Prop} (hstep : ∀ s t, P s → step s = .next t → P t) {k : Nat} {s t : State}
    (hs : P s) (h : Host.Core.run Sys2Proof.core k s = .next t) : P t := by
  induction k generalizing s with
  | zero =>
    cases h
    exact hs
  | succ k ih =>
    obtain ⟨m, hfirst, hrest⟩ := run_succ.mp h
    exact ih (hstep s m hs hfirst) hrest

/-! ### What is emitted -/

/-- From s to t neither a hangup request nor a forwarded byte is emitted. -/
def State.Silent (s t : State) : Prop :=
  t.events.count .hangupReq = s.events.count .hangupReq ∧
    ∀ b, t.events.count (.transportWrite b) = s.events.count (.transportWrite b)

/-- Silence chains. -/
theorem State.Silent.trans {s t u : State} (hst : s.Silent t) (htu : t.Silent u) : s.Silent u :=
  ⟨htu.1.trans hst.1, fun b => (htu.2 b).trans (hst.2 b)⟩

/-- Where nothing is emitted, neither is. -/
theorem silent_of_events_eq {s t : State} (h : t.events = s.events) : s.Silent t :=
  ⟨by rw [h], fun _ => by rw [h]⟩

/-- A report is neither (R34, R150). -/
theorem silent_raise (c : Condition) (s : State) : s.Silent (s.raise c) := by
  simp [State.Silent]

/-- A line handed over is neither (R34, R135). -/
theorem silent_dispatchLine (n : Nat) (s : State) : s.Silent (s.dispatchLine n) := by
  simp [State.Silent]

/-- RxqPut emits a report or nothing (R111). -/
theorem silent_rxqPut (d : Byte) (s : State) : s.Silent (s.rxqPut d) := by
  unfold State.rxqPut
  split
  · exact silent_raise _ s
  · exact silent_of_events_eq rfl

/-- Closing a line emits its report, if any, and the line (R135). -/
theorem silent_closeLine (c : Byte) (s : State) : s.Silent (s.closeLine c) := by
  refine State.Silent.trans (t := (s.lineWrite (s.offset - 1) 0).reportLength c) ?_ (silent_dispatchLine _ _)
  unfold State.reportLength
  split
  · exact silent_of_events_eq rfl
  · exact silent_raise _ (s.lineWrite (s.offset - 1) 0)

/-- Accumulate emits what closing a line emits, or nothing (R135). -/
theorem silent_accumulate (b : Byte) (s : State) : s.Silent (s.accumulate b) := by
  have htype : s.Silent (s.typeChar (foldByte s.params b)) := silent_of_events_eq (by simp)
  have hclose (u : State) (c : Byte) : u.Silent (u.closeIfDone c) := by
    unfold State.closeIfDone
    split
    · exact silent_closeLine c u
    · exact silent_of_events_eq rfl
  exact htype.trans (hclose _ _)

/-! ### What is paid -/

/-- From s to t three '+' are forwarded for each hangup request, and one for each that the count is higher. -/
def State.Paid (s t : State) : Prop :=
  t.params = s.params ∧
    3 * t.events.count .hangupReq + t.plusCount + s.events.count (.transportWrite s.params.chPlus) ≤
      3 * s.events.count .hangupReq + s.plusCount + t.events.count (.transportWrite s.params.chPlus)

/-- With nothing done nothing is to be paid. -/
theorem State.Paid.refl (s : State) : s.Paid s := ⟨rfl, le_rfl⟩

/-- Payments add up. -/
theorem State.Paid.trans {s t u : State} (hst : s.Paid t) (htu : t.Paid u) : s.Paid u := by
  obtain ⟨hst_params, hst_count⟩ := hst
  obtain ⟨htu_params, htu_count⟩ := htu
  rw [hst_params] at htu_count
  exact ⟨htu_params.trans hst_params, by omega⟩

/-- Where neither is emitted and the count does not rise, nothing is to be paid. -/
theorem State.Silent.paid {s t : State} (h : s.Silent t) (hp : t.params = s.params) (hc : t.plusCount ≤ s.plusCount) :
    s.Paid t := by
  obtain ⟨hhangup, hforward⟩ := h
  exact ⟨hp, by rw [hhangup, hforward]; omega⟩

/-- A forwarded byte counts as at most one '+', and only if it is one (R140). -/
theorem plusCountAfter_le_count (b : Byte) (s : State) :
    s.plusCountAfter b ≤ s.plusCount + [Event.transportWrite b].count (.transportWrite s.params.chPlus) := by
  unfold State.plusCountAfter
  split
  next hplus =>
    subst hplus
    rw [List.count_singleton_self]
    split_ifs <;> omega
  next => exact Nat.zero_le _

/-- The relay forwards the byte that it counts (R131, R140). -/
theorem paid_onlineRelay (b : Byte) (s : State) : s.Paid (s.onlineRelay b) := by
  have hle := plusCountAfter_le_count b s
  have hcount : (s.onlineRelay b).plusCount = s.plusCountAfter b := rfl
  have hevents : (s.onlineRelay b).events = s.events ++ [.transportWrite b] := rfl
  have hhangup : [Event.transportWrite b].count .hangupReq = 0 := rfl
  refine ⟨rfl, ?_⟩
  rw [hcount, hevents, List.count_append, List.count_append, hhangup]
  omega

/-- TX_SERVICE counts only what it forwards (R130 to R135). -/
theorem paid_serviceTx (s : State) : s.Paid s.serviceTx := by
  cases serviceTx_branch s with
  | nothing h =>
    rw [h]
    exact .refl s
  | relayed h =>
    rw [h]
    exact paid_onlineRelay _ s
  | queued h =>
    rw [h]
    exact ((silent_rxqPut _ s).trans (silent_accumulate _ _)).paid (by simp) (by simp)
  | delivered h =>
    rw [h]
    have hdeliver : s.Silent (s.deliver s.txByte) := silent_of_events_eq rfl
    exact (hdeliver.trans (silent_accumulate _ _)).paid (by simp) (by simp)
  | held h =>
    rw [h]
    exact (silent_of_events_eq rfl).paid rfl le_rfl

/-- With the third '+' a second old ESC_CHK requests the hangup and clears the count (R141). -/
theorem checkEscape_of_due {s : State} (h : s.plusCount = 3 ∧ s.guardElapsed) :
    s.checkEscape = { s with plusCount := 0, events := s.events ++ [.hangupReq] } := if_pos h

/-- Otherwise it does nothing (R141). -/
theorem checkEscape_of_not_due {s : State} (h : ¬ (s.plusCount = 3 ∧ s.guardElapsed)) : s.checkEscape = s := if_neg h

/-- ESC_CHK pays for its request with the three '+' it takes off the count (R141). -/
theorem paid_checkEscape (s : State) : s.Paid s.checkEscape := by
  by_cases h : s.plusCount = 3 ∧ s.guardElapsed
  · rw [checkEscape_of_due h]
    obtain ⟨hcount, -⟩ := h
    have hhangup : [Event.hangupReq].count .hangupReq = 1 := rfl
    refine ⟨rfl, ?_⟩
    simp only [List.count_append, hhangup, hcount]
    omega
  · rw [checkEscape_of_not_due h]
    exact .refl s

/-- Every operation pays. -/
theorem paid_effectOf (i : Instr) (s : State) : s.Paid (effectOf i s) := by
  cases i with
  | txService => exact paid_serviceTx s
  | escChk => exact paid_checkEscape s
  | rxqPut d => exact (silent_rxqPut d s).paid (by simp) (by simp)
  | nmiTimeoutChk =>
    have hsilent : s.Silent s.checkTimeout := by
      unfold State.checkTimeout
      split
      · exact silent_raise .nmiTimeout s.withdraw
      · exact silent_of_events_eq rfl
    exact hsilent.paid (by simp) (by simp)
  | init =>
    have hsilent : s.Silent s.initialise := silent_of_events_eq rfl
    exact hsilent.paid rfl (Nat.zero_le _)
  | tick | rxService | rxFlush =>
    exact (silent_of_events_eq (by simp [effectOf])).paid (by simp [effectOf]) (by simp [effectOf])
  | rdData | rdStatus | rdCommand | rdControl | wrData | wrStatus | wrCommand | wrControl | rxqClear =>
    exact (silent_of_events_eq rfl).paid rfl le_rfl

/-- Every step pays. -/
theorem paid_step {s t : State} (h : step s = .next t) : s.Paid t := by
  refine step_keeps (P := s.Paid) (fun _ _ _ hu => hu) (fun i u v hu huv => ?_) (.refl s) h
  obtain ⟨-, rfl⟩ := exec_eq_next.mp huv
  exact hu.trans (paid_effectOf i u)

/-- Settles O27: every step pays for the requests it makes and for the '+' it counts, so a run that begins with none
counted has paid for all its requests. -/
theorem hangupNeedsThreePlusForwarded : Obligations.HangupNeedsThreePlusForwarded := by
  intro k s t hzero hrun
  obtain ⟨-, hpaid⟩ := run_keeps (P := s.Paid) (fun _ _ hu huv => hu.trans (paid_step huv)) (.refl s) hrun
  omega

end Sys2Proof.Machine
end

section
/-! The data position and the escape detector (R130, R131, R140, R141), and the byte of a held echo (R138). -/

namespace Sys2Proof.Machine

/-- Settles O17: with txEmpty 1, bit 4 of the status byte, TX_SERVICE's effect is the identity. -/
theorem txServiceWithNothingWrittenDoesNothing : Obligations.TxServiceWithNothingWrittenDoesNothing :=
  fun _ h hempty => exec_of_allowed (tx_allowed h) (if_pos hempty)

/-- A byte of the host's that waits is routed where TX_SERVICE may run. -/
theorem exec_txService_of_written {s t : State} (h : s.MayServiceTx) (hw : s.status.getLsbD 4 = false)
    (ht : s.routeTx s.txByte = t) : exec .txService s = .next t :=
  exec_of_allowed (tx_allowed h) ((serviceTx_of_written hw).trans ht)

/-! ### The data position -/

/-- EscCount with 0 written out where it leaves the count: it leaves a '+' uncounted only at 0 (R140). -/
theorem plusCountAfter_eq (b : Byte) (s : State) :
    s.plusCountAfter b =
      if b = s.params.chPlus then
        if s.plusCount ≠ 0 ∨ s.guardElapsed then if s.plusCount = 3 then 0 else s.plusCount + 1 else 0
      else 0 := by
  unfold State.plusCountAfter
  by_cases hcounts : s.plusCount ≠ 0 ∨ s.guardElapsed
  · rw [if_pos hcounts, if_pos hcounts]
    rfl
  · have hzero : s.plusCount = 0 := not_not.mp (not_or.mp hcounts).1
    rw [if_neg hcounts, if_neg hcounts, hzero]

/-- OnlineRelay's writes in one update: txEmpty is bit 4 of the status byte (R131, R14). -/
theorem onlineRelay_eq (b : Byte) (s : State) :
    s.onlineRelay b =
      { s with
        events := s.events ++ [.transportWrite b], plusCount := s.plusCountAfter b
        status := s.status ||| 0x10#8, lastTxTime := s.inputs.nowMs, pollPhase := .idle } := rfl

/-- Settles O18: the byte is relayed, and the count read from the time of the byte before. -/
theorem onlineRelayForwardsTheByte : Obligations.OnlineRelayForwardsTheByte := by
  intro s h hw hdata
  obtain ⟨hmode, hconnected⟩ := hdata
  refine exec_txService_of_written h hw ?_
  rw [routeTx_online hmode hconnected, onlineRelay_eq, plusCountAfter_eq]
  rfl

/-! ### The escape check -/

/-- Settles O25: ESC_CHK's two branches. -/
theorem escapeCheckRequestsTheHangup : Obligations.EscapeCheckRequestsTheHangup := by
  intro s h hidle
  have hok : refusalOf .escChk s = none := idle_allowed h hidle rfl nofun nofun
  exact ⟨fun hdue => exec_of_allowed hok (checkEscape_of_due hdue),
    fun hquiet => exec_of_allowed hok (checkEscape_of_not_due hquiet)⟩

/-- The state after a '+' that the host wrote has been forwarded under the inputs `inp` and counted. -/
def State.afterPlus (inp : Inputs) (rest : List Issue) (s : State) : State :=
  { s.begin (issueOf inp .txService) rest with
    txByte := s.params.chPlus, status := s.status &&& 0xEF#8 ||| 0x10#8
    events := s.events ++ [.transportWrite s.params.chPlus], plusCount := s.plusCount + 1, lastTxTime := inp.nowMs
    pollPhase := .idle }

/-- A '+' written and serviced online is counted while fewer than three are, if one is counted already or a second of
silence came before (R84, R131, R140). -/
theorem run_plus {w inp : Inputs} {rest : List Issue} {s : State} (hinit : s.initialised = true)
    (hidle : s.pollPhase = .idle) (hi : s.indicesInRange) (hdata : inp.mode = .offline ∧ inp.connected = true)
    (hfew : s.plusCount < 3) (hcounts : s.plusCount ≠ 0 ∨ 1000 ≤ (inp.nowMs - s.lastTxTime).toNat)
    (h : s.schedule = issueOf w (.wrData s.params.chPlus) :: issueOf inp .txService :: rest) :
    Host.Core.run Sys2Proof.core 2 s = .next (s.afterPlus inp rest) := by
  let r := s.begin (issueOf w (.wrData s.params.chPlus)) (issueOf inp .txService :: rest)
  let u : State := { r with txByte := s.params.chPlus, status := s.status &&& 0xEF#8 }
  have hwrite : step s = .next u :=
    (step_of_issueOf h).trans (wrDataLatchesByteAndClearsTxEmpty s.params.chPlus r ⟨hinit, rfl⟩)
  let v := u.begin (issueOf inp .txService) rest
  have hphase : v.pollPhase ≠ .flushing := hidle.trans_ne nofun
  have hmay : v.MayServiceTx := ⟨⟨hinit, rfl⟩, hphase, hi⟩
  have hwritten : v.status.getLsbD 4 = false := by
    change (s.status &&& 0xEF#8).getLsbD 4 = false
    simp
  have hforward := onlineRelayForwardsTheByte v hmay hwritten hdata
  have hplus : v.txByte = v.params.chPlus := rfl
  have hcounted : v.plusCount ≠ 0 ∨ 1000 ≤ (v.inputs.nowMs - v.lastTxTime).toNat := hcounts
  have hnext : v.plusCount ≠ 3 := hfew.ne
  rw [if_pos hplus, if_pos hcounted, if_neg hnext] at hforward
  exact run_succ.mpr ⟨u, hwrite, run_succ.mpr ⟨_, (step_of_issueOf rfl).trans hforward, rfl⟩⟩

/-- Settles O26: the three '+' are forwarded and counted one by one, and the check finds the third a second old. -/
theorem threePlusWithSilenceRequestTheHangup : Obligations.ThreePlusWithSilenceRequestTheHangup := by
  intro first second third last s plus hdata hinit hidle hi hzero hbefore hafter hsched
  have hdata1 := hdata first (by simp)
  have hdata2 := hdata second (by simp)
  have hdata3 := hdata third (by simp)
  have hrun1 := run_plus hinit hidle hi hdata1 (by omega) (.inr hbefore) hsched
  let s1 := s.afterPlus first [plus, issueOf second .txService, plus, issueOf third .txService, issueOf last .escChk]
  have hcount1 : s1.plusCount = 1 := congrArg (· + 1) hzero
  have hrun2 := run_plus (s := s1) hinit rfl hi hdata2 (by omega) (.inl (by omega)) rfl
  let s2 := s1.afterPlus second [plus, issueOf third .txService, issueOf last .escChk]
  have hcount2 : s2.plusCount = 2 := congrArg (· + 1) hcount1
  have hrun3 := run_plus (s := s2) hinit rfl hi hdata3 (by omega) (.inl (by omega)) rfl
  let s3 := s2.afterPlus third [issueOf last .escChk]
  have hcount3 : s3.plusCount = 3 := congrArg (· + 1) hcount2
  obtain ⟨hfires, -⟩ := escapeCheckRequestsTheHangup (s3.begin (issueOf last .escChk) []) ⟨hinit, rfl⟩ rfl
  have hcheck : step s3 = _ := (step_of_issueOf rfl).trans (hfires ⟨hcount3, hafter⟩)
  have hrun := run_add hrun1 (run_add hrun2 (run_add (k := 1) hrun3 (run_succ.mpr ⟨_, hcheck, rfl⟩)))
  refine ⟨_, hrun, rfl, rfl, ?_⟩
  simp [s1, s2, s3, State.afterPlus]

/-! ### The held byte -/

/-- TX_SERVICE holds an echo only with its byte waiting, and otherwise leaves the phase Idle (R134, R138). -/
theorem serviceTx_heldByteKept {s : State} (h : s.HeldByteKept) : s.serviceTx.HeldByteKept := by
  by_cases hempty : s.flag .txEmpty = true
  · have hs : s.serviceTx = s := if_pos hempty
    rwa [hs]
  · cases serviceTx_branch s with
    | nothing hs => rwa [hs]
    | relayed hs | queued hs | delivered hs => simp [State.HeldByteKept, hs]
    | held hs =>
      rw [hs]
      exact fun _ => Bool.eq_false_of_not_eq_true hempty

/-- The end of a flush does not enter the phase ImmWait (R121). -/
theorem endFlush_immWait {s : State} (h : s.endFlush.pollPhase = .immWait) : s.pollPhase = .immWait := by
  unfold State.endFlush at h
  split at h
  · cases h
  · exact h

/-- The start of a flush does not enter the phase ImmWait (R120). -/
theorem startFlush_immWait {s : State} (h : s.startFlush.pollPhase = .immWait) : s.pollPhase = .immWait := by
  unfold State.startFlush at h
  split at h
  · cases h
  · exact h

/-- Only TX_SERVICE enters the phase ImmWait (R29). -/
theorem effectOf_immWait {i : Instr} {s : State} (hi : i ≠ .txService) (h : (effectOf i s).pollPhase = .immWait) :
    s.pollPhase = .immWait := by
  cases i with
  | txService => exact absurd rfl hi
  | init => cases h
  | rxService =>
    rcases serviceRx_cases s with hs | ⟨-, hs⟩
    · exact endFlush_immWait (hs ▸ h)
    · simpa using endFlush_immWait (s := s.dequeue) (hs ▸ h)
  | rxFlush => exact startFlush_immWait h
  | tick | rxqPut | nmiTimeoutChk | escChk => simpa [effectOf] using h
  | rdData | rdStatus | rdCommand | rdControl | wrData | wrStatus | wrCommand | wrControl | rxqClear => exact h

/-- Settles O56: outside TX_SERVICE the phase is entered by no operation, and in it none sets txEmpty. -/
theorem everyStepKeepsTheHeldByte : Obligations.EveryStepKeepsTheHeldByte := by
  intro s t hs h
  refine step_keeps (P := State.HeldByteKept) (fun _ _ _ hu => hu) (fun i u v hu huv => ?_) hs h
  by_cases hi : i = .txService
  · subst hi
    obtain ⟨-, rfl⟩ := exec_eq_next.mp huv
    exact serviceTx_heldByteKept hu
  · intro hv
    have hbyte : u.flag .txEmpty = false := by
      obtain ⟨-, rfl⟩ := exec_eq_next.mp huv
      exact hu (effectOf_immWait hi hv)
    by_contra hne
    rcases (txEmptyIsTheHandshake i u v huv).2 hbyte (Bool.eq_true_of_not_eq_false hne) with htx | hinit
    · exact hi htx
    · subst hinit
      obtain ⟨-, rfl⟩ := exec_eq_next.mp huv
      cases hv

end Sys2Proof.Machine
end

section
/-! The command position (R133 to R137): the echo, through the queue or past it, and what the folded byte does to the
line. -/

namespace Sys2Proof.Machine

/-! ### Line assembly -/

/-- A place of the line reads as written, and every other place as before. -/
theorem lineRead_lineWrite (s : State) (a : Nat) (b : Byte) (x : Nat) :
    (s.lineWrite a b).lineRead x = if a = x then b else s.lineRead x := by
  simp only [State.lineRead, State.lineWrite_line, State.lineWrite_drawNo, Memory.read_write]
  split <;> rfl

/-- A carriage return erases nothing, by the constraints of R7. -/
theorem not_erases_chCr {p : Params} (h : p.wf) : ¬ erases p p.chCr = true := by
  obtain ⟨-, -, -, -, hcr_bs, hcr_del⟩ := h
  simp [erases, hcr_bs, hcr_del]

/-- An erasing character takes the index back by one, in whole numbers from 0 up (R135). -/
theorem typeChar_of_erases {s : State} {c : Byte} (h : erases s.params c = true) :
    s.typeChar c = { s with offset := s.offset - 1 } := by
  unfold State.typeChar
  rw [if_pos h]
  split
  next => rfl
  next hzero => rw [Nat.sub_eq_zero_of_le (by omega), ← Nat.eq_zero_of_not_pos hzero]

/-- The line with a character more (R135). -/
def State.appendChar (c : Byte) (s : State) : State := { s.lineWrite s.offset c with offset := s.offset + 1 }

/-- The character is read in the place at the index (R135). -/
theorem appendChar_lineRead (c : Byte) (s : State) (a : Nat) :
    (s.appendChar c).lineRead a = if s.offset = a then c else s.lineRead a := lineRead_lineWrite s s.offset c a

/-- It writes the line and the index alone (R135). -/
theorem appendChar_keeps (c : Byte) (s : State) :
    (s.appendChar c).offset = s.offset + 1 ∧ (s.appendChar c).params = s.params ∧
      (s.appendChar c).inputs = s.inputs ∧ (s.appendChar c).events = s.events := ⟨rfl, rfl, rfl, rfl⟩

/-- A character that does not erase is appended (R135). -/
theorem typeChar_of_not_erases {s : State} {c : Byte} (h : ¬ erases s.params c = true) :
    s.typeChar c = s.appendChar c := if_neg h

/-- The report of a line that the folded byte closes: none by a carriage return (R135, R153). -/
def lengthReports (p : Params) (c : Byte) : List Event := if c = p.chCr then [] else [.report .lineMaxLen]

/-- The report of a line's length stands in the events alone (R135, R153). -/
theorem reportLength_eq (c : Byte) (s : State) :
    s.reportLength c = { s with events := s.events ++ lengthReports s.params c } := by
  unfold State.reportLength lengthReports
  split
  · rw [List.append_nil]
  · rfl

/-- Closing a line stores the terminator in the place of the last character (R135). -/
theorem closeLine_lineRead (c : Byte) (s : State) (a : Nat) :
    (s.closeLine c).lineRead a = if s.offset - 1 = a then 0 else s.lineRead a := by
  rw [← lineRead_lineWrite]
  exact lineRead_congr (by simp) (by simp) a

/-- Closing a line emits its report, if it is not closed by a carriage return, and then the characters before the last
(R135, R153, R158). -/
theorem closeLine_events (c : Byte) (s : State) :
    (s.closeLine c).events =
      s.events ++ lengthReports s.params c ++
        [.lineDispatch (lineDest s.inputs.mode) ((List.range (s.offset - 1)).map s.lineRead)] := by
  have hpayload : ((s.lineWrite (s.offset - 1) 0).reportLength c).linePayload (s.offset - 1) =
      (List.range (s.offset - 1)).map s.lineRead := by
    rw [reportLength_eq]
    exact linePayload_write s 0 le_rfl
  rw [State.closeLine, State.dispatchLine_events, hpayload, reportLength_eq]
  rfl

/-- What ends Accumulate leaves the line and the events (R135). -/
theorem clearPlus_consumed_line (s : State) :
    s.clearPlus.consumed.offset = s.offset ∧ s.clearPlus.consumed.lineRead = s.lineRead ∧
      s.clearPlus.consumed.events = s.events := ⟨rfl, rfl, rfl⟩

/-- The line that Accumulate's second half leaves, consuming the byte leaves (R135). -/
theorem accumulate_of_typeChar {s u : State} {b : Byte} (h : s.typeChar (foldByte s.params b) = u) :
    (s.accumulate b).offset = (u.closeIfDone (foldByte s.params b)).offset ∧
      (s.accumulate b).lineRead = (u.closeIfDone (foldByte s.params b)).lineRead ∧
      (s.accumulate b).events = (u.closeIfDone (foldByte s.params b)).events := by
  subst h
  exact clearPlus_consumed_line _

/-- Accumulate of an ordinary character that leaves room in the buffer: it is appended (R135). -/
theorem accumulate_of_append {s : State} {b : Byte} (hkeep : ¬ erases s.params (foldByte s.params b) = true)
    (hopen : ¬ (foldByte s.params b = s.params.chCr ∨ s.offset + 1 = s.params.txLineMax)) :
    (s.accumulate b).offset = s.offset + 1 ∧
      (∀ a, (s.accumulate b).lineRead a = if s.offset = a then foldByte s.params b else s.lineRead a) ∧
      (s.accumulate b).events = s.events := by
  have hline : (s.appendChar (foldByte s.params b)).closeIfDone (foldByte s.params b) = s.appendChar _ := if_neg hopen
  obtain ⟨hoffset, hread, hevents⟩ := accumulate_of_typeChar (typeChar_of_not_erases hkeep)
  rw [hoffset, hread, hevents, hline]
  exact ⟨rfl, appendChar_lineRead _ s, rfl⟩

/-- Accumulate of an erasing character that closes no line: the index goes back (R135). -/
theorem accumulate_of_erases {s : State} {b : Byte} (herases : erases s.params (foldByte s.params b) = true)
    (hopen : ¬ (foldByte s.params b = s.params.chCr ∨ s.offset - 1 = s.params.txLineMax)) :
    (s.accumulate b).offset = s.offset - 1 ∧ (s.accumulate b).lineRead = s.lineRead ∧
      (s.accumulate b).events = s.events := by
  have hline : ({ s with offset := s.offset - 1 } : State).closeIfDone (foldByte s.params b) = _ := if_neg hopen
  obtain ⟨hoffset, hread, hevents⟩ := accumulate_of_typeChar (typeChar_of_erases herases)
  rw [hoffset, hread, hevents, hline]
  exact ⟨rfl, rfl, rfl⟩

/-- Accumulate of a character that closes the line: it gives way to the terminator, and the line before it is handed
over (R135). -/
theorem accumulate_of_close {s : State} {b : Byte} (hkeep : ¬ erases s.params (foldByte s.params b) = true)
    (hclose : foldByte s.params b = s.params.chCr ∨ s.offset + 1 = s.params.txLineMax) :
    (s.accumulate b).offset = 0 ∧
      (∀ a, (s.accumulate b).lineRead a = if s.offset = a then 0 else s.lineRead a) ∧
      (s.accumulate b).events =
        s.events ++ lengthReports s.params (foldByte s.params b) ++
          [.lineDispatch (lineDest s.inputs.mode) ((List.range s.offset).map s.lineRead)] := by
  have hline : (s.appendChar (foldByte s.params b)).closeIfDone (foldByte s.params b) =
      (s.appendChar (foldByte s.params b)).closeLine (foldByte s.params b) := if_pos hclose
  obtain ⟨hoffset, hread, hevents⟩ := accumulate_of_typeChar (typeChar_of_not_erases hkeep)
  obtain ⟨happend, hparams, hinputs, hbefore⟩ := appendChar_keeps (foldByte s.params b) s
  have hpayload : (List.range s.offset).map (s.appendChar (foldByte s.params b)).lineRead =
      (List.range s.offset).map s.lineRead := linePayload_write s (foldByte s.params b) le_rfl
  rw [hoffset, hread, hevents, hline]
  refine ⟨by simp, fun a => ?_, ?_⟩
  · rw [closeLine_lineRead, appendChar_lineRead, happend, Nat.add_sub_cancel]
    exact ite_congr rfl (fun _ => rfl) fun hne => if_neg hne
  · rw [closeLine_events, happend, hparams, hinputs, hbefore, Nat.add_sub_cancel, hpayload]

/-! ### The echo -/

/-- The state after the echo of the waiting byte: offline through the Rx queue, browsing past it (R133, R134). -/
def State.echoed (s : State) : State :=
  match s.inputs.mode with
  | .offline => s.rxqPut s.txByte
  | .browser => s.deliver s.txByte

/-- The echo leaves the line and what its assembly reads (R133, R134). -/
@[simp] theorem State.echoed_keeps (s : State) :
    s.echoed.offset = s.offset ∧ s.echoed.params = s.params ∧ s.echoed.inputs = s.inputs ∧
      s.echoed.lineRead = s.lineRead := by
  unfold State.echoed
  split
  · have hread : (s.rxqPut s.txByte).lineRead = s.lineRead := funext (lineRead_congr (by simp) (by simp))
    simp [hread]
  · exact ⟨rfl, rfl, rfl, rfl⟩

/-- With the indices in range the queue is full exactly when one slot is left (R31, R111). -/
theorem full_iff {s : State} (hi : s.indicesInRange) :
    s.params.rxCapacity - 1 ≤ s.used ↔ s.used = s.params.rxCapacity - 1 := by
  obtain ⟨hhead, htail, -⟩ := hi
  have := State.used_lt hhead htail
  omega

/-- RxqPut reports an overflow exactly on a full queue (R111). -/
theorem rxqPut_events {s : State} (hi : s.indicesInRange) (d : Byte) :
    (s.rxqPut d).events = s.events ++ if s.used = s.params.rxCapacity - 1 then [.report .rxOverflow] else [] := by
  unfold State.rxqPut
  simp only [full_iff hi]
  split
  · exact State.raise_events _ s
  · exact (List.append_nil _).symm

/-- The echo emits its own report alone (R133). -/
theorem State.echoed_events {s : State} (hi : s.indicesInRange) : s.echoed.events = s.events ++ s.echoReports := by
  unfold State.echoed State.echoReports
  cases s.inputs.mode with
  | offline => simpa using rxqPut_events hi s.txByte
  | browser => simp

/-- In a command position the waiting byte is echoed and accumulated (R132 to R135). -/
theorem exec_txService_of_command {s : State} (h : s.MayServiceTx) (hw : s.status.getLsbD 4 = false)
    (hc : s.CommandPosition) : exec .txService s = .next (s.echoed.accumulate s.txByte) := by
  refine exec_txService_of_written h hw ?_
  rcases hc with ⟨hmode, hconnected⟩ | ⟨hmode, hready⟩
  · simp [routeTx_offline hmode hconnected, State.offlineEcho, State.echoed, hmode]
  · simp [routeTx_browser hmode, State.browserEcho, State.echoed, hmode, hready]

/-- Accumulate's writes beside the line, its index and the events (R135). -/
theorem accumulate_frame {s t : State} {b : Byte} (h : s.accumulate b = t) :
    t = { s with
          line := t.line, offset := t.offset, events := t.events
          plusCount := 0, lastTxTime := s.inputs.nowMs, pollPhase := .idle, status := s.status ||| 0x10#8 } := by
  subst h
  apply State.ext <;> simp [putTxEmpty_true]

/-- RxqPut's writes (R111). -/
theorem rxqPut_frame (d : Byte) (s : State) :
    s.rxqPut d = { s with rxq := (s.rxqPut d).rxq, head := (s.rxqPut d).head, events := (s.rxqPut d).events } := by
  unfold State.rxqPut
  split <;> rfl

/-- On a full queue RxqPut reports and leaves the ring (R111). -/
theorem rxqPut_of_full {s : State} (hi : s.indicesInRange) (h : s.used = s.params.rxCapacity - 1) (d : Byte) :
    s.rxqPut d = s.raise .rxOverflow := if_pos ((full_iff hi).mpr h)

/-- With room in the queue RxqPut stores the byte at the write index, which moves on (R111). -/
theorem rxqPut_of_room {s : State} (h : s.used < s.params.rxCapacity - 1) (d : Byte) :
    s.rxqPut d = { s.rxqWrite s.head d with head := s.nextSlot s.head } := if_neg (not_le.mpr h)

/-- Settles O19: the echo goes through RxqPut's two branches, and Accumulate leaves the ring. -/
theorem offlineEchoGoesThroughTheQueue : Obligations.OfflineEchoGoesThroughTheQueue := by
  intro s h hw hmode hconnected
  have ⟨_, _, hi⟩ := h
  obtain ⟨t, ht⟩ : ∃ t, (s.rxqPut s.txByte).accumulate s.txByte = t := ⟨_, rfl⟩
  have hhead : (s.rxqPut s.txByte).head = t.head := by simp [← ht]
  have hrxq : (s.rxqPut s.txByte).rxq = t.rxq := by simp [← ht]
  have hread : t.rxqRead = (s.rxqPut s.txByte).rxqRead := funext (rxqRead_congr hrxq.symm (by simp [← ht]))
  refine ⟨t, exec_txService_of_written h hw ((routeTx_offline hmode hconnected _).trans ht), ?_, fun hfull => ?_,
    fun hroom => ?_⟩
  · have hframe := accumulate_frame ht
    rwa [rxqPut_frame, hhead, hrxq] at hframe
  · obtain ⟨l, hl⟩ := accumulate_events (s.rxqPut s.txByte) s.txByte
    rw [ht, rxqPut_of_full hi hfull, State.raise_events, List.append_assoc] at hl
    rw [hread, ← hhead, rxqPut_of_full hi hfull]
    exact ⟨rfl, fun _ => rfl, l, hl⟩
  · have hstore := rxqRead_rxqWrite s s.head s.txByte
    rw [hread, ← hhead, rxqPut_of_room hroom]
    exact ⟨rfl, (hstore _).trans (if_pos rfl), fun a ha => (hstore a).trans (if_neg ha.symm)⟩

/-- Settles O20: the browser echo's two branches, with Deliver's writes. -/
theorem browserEchoIsDeliveredOrHeld : Obligations.BrowserEchoIsDeliveredOrHeld := by
  intro s h hw hmode
  refine ⟨fun hr => ?_, fun hr => ?_⟩
  · obtain ⟨t, ht⟩ : ∃ t, (s.deliver s.txByte).accumulate s.txByte = t := ⟨_, rfl⟩
    have hroute : s.routeTx s.txByte = t := (routeTx_browser hmode _).trans ((if_pos hr).trans ht)
    have hframe := accumulate_frame ht
    rw [deliver_eq] at hframe
    refine ⟨t, exec_txService_of_written h hw hroute, hframe.trans ?_⟩
    rw [BitVec.or_assoc]
    rfl
  · exact exec_txService_of_written h hw ((routeTx_browser hmode _).trans (if_neg (by simp [hr])))

/-! ### What the folded byte does -/

/-- Settles O21: the character is no erasure and closes no line. -/
theorem lineAppendsAFoldedCharacter : Obligations.LineAppendsAFoldedCharacter := by
  intro s h hw hc hbs hdel hcr hroom
  have ⟨_, _, hi⟩ := h
  have ⟨hoffset, hline, hevents⟩ := accumulate_of_append (s := s.echoed) (b := s.txByte)
    (by simp [erases, hbs, hdel]) (by simp [hcr, hroom.ne])
  simp only [State.echoed_keeps] at hoffset hline
  exact ⟨_, exec_txService_of_command h hw hc, hoffset, (hline _).trans (if_pos rfl),
    fun a ha => (hline a).trans (if_neg ha.symm), hevents.trans (State.echoed_events hi)⟩

/-- Settles O22: the erasing character is no carriage return, and the index it leaves closes no line. -/
theorem lineErasesTheLastCharacter : Obligations.LineErasesTheLastCharacter := by
  intro s h hw hc hwf herases
  have ⟨_, _, hi⟩ := h
  replace herases : erases s.params (foldByte s.params s.txByte) = true := by simpa [erases] using herases
  have hcr : foldByte s.params s.txByte ≠ s.params.chCr := fun heq => not_erases_chCr hwf (heq ▸ herases)
  have hoff : s.offset - 1 ≠ s.params.txLineMax := by omega
  have ⟨hoffset, hline, hevents⟩ := accumulate_of_erases (s := s.echoed) (b := s.txByte)
    (by simpa using herases) (by simp [hcr, hoff])
  simp only [State.echoed_keeps] at hoffset hline
  exact ⟨_, exec_txService_of_command h hw hc, hoffset, congrFun hline, hevents.trans (State.echoed_events hi)⟩

/-- The destination of R136 as the statements write it. -/
theorem lineDest_eq (m : Mode) : lineDest m = if m = .browser then .browser else .at := by cases m <;> rfl

/-- A character that closes the line in a command position: the terminator, the report if any, and the payload. -/
theorem exec_txService_closes {s : State} (h : s.MayServiceTx) (hw : s.status.getLsbD 4 = false)
    (hc : s.CommandPosition) (hkeep : ¬ erases s.params (foldByte s.params s.txByte) = true)
    (hclose : foldByte s.params s.txByte = s.params.chCr ∨ s.offset + 1 = s.params.txLineMax) :
    ∃ t, exec .txService s = .next t ∧ t.offset = 0 ∧
      t.lineRead s.offset = 0 ∧ (∀ a, a ≠ s.offset → t.lineRead a = s.lineRead a) ∧
      t.events = s.events ++ s.echoReports ++ lengthReports s.params (foldByte s.params s.txByte) ++
        [.lineDispatch (if s.inputs.mode = .browser then .browser else .at)
          ((List.range s.offset).map s.lineRead)] := by
  have ⟨_, _, hi⟩ := h
  have ⟨hoffset, hline, hevents⟩ := accumulate_of_close (s := s.echoed) (b := s.txByte)
    (by simpa using hkeep) (by simpa using hclose)
  simp only [State.echoed_keeps, State.echoed_events hi, lineDest_eq] at hline hevents
  exact ⟨_, exec_txService_of_command h hw hc, hoffset, (hline _).trans (if_pos rfl),
    fun a ha => (hline a).trans (if_neg ha.symm), hevents⟩

/-- Settles O23: a carriage return, which erases nothing, closes the line without a report. -/
theorem carriageReturnDispatchesTheLine : Obligations.CarriageReturnDispatchesTheLine := by
  intro s h hw hc hwf hcr
  have hclosed := exec_txService_closes h hw hc (hcr ▸ not_erases_chCr hwf) (.inl hcr)
  rwa [lengthReports, if_pos hcr, List.append_nil] at hclosed

/-- Settles O24: a character in the last slot closes the line with the report of its length. -/
theorem fullBufferDispatchesTheLineAndReports : Obligations.FullBufferDispatchesTheLineAndReports := by
  intro s h hw hc hbs hdel hcr hlast
  have hclosed := exec_txService_closes h hw hc (by simp [erases, hbs, hdel]) (.inr hlast)
  rwa [lengthReports, if_neg hcr, List.append_assoc] at hclosed

end Sys2Proof.Machine
end

section
/-! The agents' rights (R164): which operations are refused and why, and what each completed CYC or POLL operation may
write. -/

namespace Sys2Proof.Machine

/-! ### Refusals -/

/-- An operation that may not be issued answers the reason. -/
theorem exec_of_refused {i : Instr} {s : State} {r : Refusal} (h : refusalOf i s = some r) :
    exec i s = .refused r := by
  rw [exec_eq_issue, issue, h]

/-- The agent is asked for first (R66). -/
theorem exec_of_wrongAgent {i : Instr} {s : State} (h : s.agent ≠ agentOf i) : exec i s = .refused .wrongAgent :=
  exec_of_refused (if_pos h)

/-- A POLL operation issued by its agent after INIT is asked for the phase next, then for the page gate, and last for
the indices (R164, R117, R43). -/
theorem refusalOf_onPoll {i : Instr} {s : State} (h : s.OnPoll) (hi : agentOf i = .poll) :
    refusalOf i s =
      if phaseAllows s.pollPhase i = false then some .wrongPhase
      else if pageAllows s.pollPhase s.inputs.pagePaused i = false then some .pagePaused
      else if usesIndices i = true ∧ ¬ s.indicesInRange then some .indexOutOfRange
      else none := by
  obtain ⟨hinit, hagent⟩ := h
  rw [refusalOf, if_neg (not_not.mpr (hagent.trans hi.symm)), if_neg (by simp [hinit])]

/-- A POLL operation in a phase that does not allow it (R164). -/
theorem exec_of_wrongPhase {i : Instr} {s : State} (h : s.OnPoll) (hi : agentOf i = .poll)
    (hp : phaseAllows s.pollPhase i = false) : exec i s = .refused .wrongPhase :=
  exec_of_refused ((refusalOf_onPoll h hi).trans (if_pos hp))

/-- A POLL operation in a phase that allows it, while a page prompt does not (R117, R164). -/
theorem exec_of_pagePaused {i : Instr} {s : State} (h : s.OnPoll) (hi : agentOf i = .poll)
    (hp : phaseAllows s.pollPhase i = true) (hg : pageAllows s.pollPhase s.inputs.pagePaused i = false) :
    exec i s = .refused .pagePaused := by
  have hallowed : ¬ phaseAllows s.pollPhase i = false := by simp [hp]
  exact exec_of_refused ((refusalOf_onPoll h hi).trans ((if_neg hallowed).trans (if_pos hg)))

/-- Settles O32: the agents of R62, row by row, and the agent is asked for first. -/
theorem wrongAgentIsRefused : Obligations.WrongAgentIsRefused := by
  intro d s
  refine ⟨fun h i hi => exec_of_wrongAgent ?_, fun h => exec_of_wrongAgent h, fun h i hi => exec_of_wrongAgent ?_,
    fun h => exec_of_wrongAgent h⟩
  · have hbus : ∀ i ∈ [Instr.rdData, .rdStatus, .rdCommand, .rdControl, .wrData d, .wrStatus d, .wrCommand d,
        .wrControl d], agentOf i = .bus := by simp [agentOf]
    rwa [hbus i hi]
  · have hpoll : ∀ i ∈ [Instr.rxqPut d, .rxqClear, .rxService, .rxFlush, .nmiTimeoutChk, .txService, .escChk],
        agentOf i = .poll := by simp [agentOf]
    rwa [hpoll i hi]

/-- Settles O33: the phases of R164, row by row, and the page gate of RX_SERVICE in the phase Idle. -/
theorem wrongPhaseIsRefused : Obligations.WrongPhaseIsRefused := by
  intro d s h
  refine ⟨fun hbusy i hi => ?_, fun hwait => ?_, fun hflush => ?_, fun hidle hpaused => ?_⟩
  · have hrow : ∀ i ∈ [Instr.rxqPut d, .rxqClear, .rxFlush, .escChk],
        agentOf i = .poll ∧ phaseAllows s.pollPhase i = (s.pollPhase == .idle) := by simp [agentOf, phaseAllows]
    obtain ⟨hagent, hphase⟩ := hrow i hi
    exact exec_of_wrongPhase h hagent (hphase.trans (beq_false_of_ne hbusy))
  · exact exec_of_wrongPhase h rfl (by rw [hwait]; rfl)
  · exact exec_of_wrongPhase h rfl (by rw [hflush]; rfl)
  · exact exec_of_pagePaused h rfl (by rw [hidle]; rfl) (by rw [hidle, hpaused]; rfl)

/-! ### The status bits an operation may write -/

/-- A field of a masked status byte. -/
theorem getFlag_and (f : Flag) (a b : Byte) : getFlag f (a &&& b) = (getFlag f a && getFlag f b) :=
  BitVec.getLsbD_and

/-- Writing a field outside a mask leaves what is inside it. -/
theorem putFlag_and {f : Flag} {m : Byte} (h : getFlag f m = false) (v : Bool) (st : Byte) :
    putFlag f v st &&& m = st &&& m := by
  apply status_ext
  intro g
  rw [getFlag_and, getFlag_and, getFlag_putFlag]
  by_cases hg : g = f
  · simp [hg, h]
  · rw [if_neg hg]

/-- An operation other than INIT leaves the status bits outside the receive flags and, where it may write txEmpty,
outside txEmpty (R14 to R19). -/
theorem StatusWrite.status_and {i : Instr} {s t : State} (h : StatusWrite i s t) (hi : i ≠ .init) {m : Byte}
    (hfull : getFlag .rxFull m = false) (hpending : getFlag .interruptPending m = false)
    (hempty : (i = .txService ∨ ∃ d, i = .wrData d) → getFlag .txEmpty m = false) :
    t.status &&& m = s.status &&& m := by
  have hreceive (v : Bool) : (s.setRxFlags v).status &&& m = s.status &&& m := by
    rw [State.setRxFlags_status, putFlag_and hpending, putFlag_and hfull]
  cases h with
  | untouched hs => rw [hs]
  | receive v hs => rw [hs, hreceive]
  | written d hwr hs => rw [hs, putFlag_and (hempty (.inr ⟨d, hwr⟩))]
  | consumed htx hs => rw [hs, putFlag_and (hempty (.inl htx))]
  | echoed htx hs => rw [hs, putFlag_and (hempty (.inl htx)), hreceive]
  | reset hinit => exact absurd hinit hi

/-! ### The elements an operation may write -/

/-- TICK's writes (R100). -/
theorem countDown_frame (s : State) : s.countDown = { s with countdown := s.countDown.countdown } := by
  apply State.ext <;> simp

/-- RX_FLUSH's writes (R120). -/
theorem startFlush_frame (s : State) : s.startFlush = { s with pollPhase := s.startFlush.pollPhase } := by
  apply State.ext <;> simp

/-- ESC_CHK's writes (R141). -/
theorem checkEscape_frame (s : State) :
    s.checkEscape = { s with plusCount := s.checkEscape.plusCount, events := s.checkEscape.events } := by
  apply State.ext <;> simp

/-- RX_SERVICE's writes (R115, R118, R121). -/
theorem serviceRx_frame (s : State) :
    s.serviceRx =
      { s with
        tail := s.serviceRx.tail, rxByte := s.serviceRx.rxByte, status := s.serviceRx.status
        nmiAsserted := s.serviceRx.nmiAsserted, nmiAssertTime := s.serviceRx.nmiAssertTime
        pollPhase := s.serviceRx.pollPhase } := by
  apply State.ext <;> simp

/-- TX_SERVICE's writes (R130 to R140). -/
theorem serviceTx_frame (s : State) :
    s.serviceTx =
      { s with
        status := s.serviceTx.status, rxq := s.serviceTx.rxq, head := s.serviceTx.head, line := s.serviceTx.line
        offset := s.serviceTx.offset, plusCount := s.serviceTx.plusCount, lastTxTime := s.serviceTx.lastTxTime
        rxByte := s.serviceTx.rxByte, nmiAsserted := s.serviceTx.nmiAsserted
        nmiAssertTime := s.serviceTx.nmiAssertTime, pollPhase := s.serviceTx.pollPhase
        events := s.serviceTx.events } := by
  apply State.ext <;> simp

/-- NMI_TIMEOUT_CHK's writes (R103). -/
theorem checkTimeout_frame (s : State) :
    s.checkTimeout =
      { s with
        status := s.checkTimeout.status, nmiAsserted := s.checkTimeout.nmiAsserted
        events := s.checkTimeout.events } := by
  apply State.ext <;> simp

/-- Settles O36: the writes of each operation, and the status bits beside the receive flags and, for TX_SERVICE,
txEmpty. -/
theorem cycleAndPollOperationsWriteOnlyTheirShare : Obligations.CycleAndPollOperationsWriteOnlyTheirShare := by
  intro d s t
  refine ⟨fun h => ?tick, fun i hi h => ?ring, fun h => ?flush, fun h => ?escape, fun h => ?rx, fun h => ?tx,
    fun h => ?timeout⟩ <;> obtain ⟨-, rfl⟩ := exec_eq_next.mp h
  case tick => exact countDown_frame s
  case ring =>
    rcases List.mem_pair.mp hi with rfl | rfl
    · apply State.ext <;> simp [effectOf]
    · rfl
  case flush => exact startFlush_frame s
  case escape => exact checkEscape_frame s
  case rx => exact ⟨serviceRx_frame s, (serviceRx_status s).status_and nofun rfl rfl nofun⟩
  case tx => exact ⟨serviceTx_frame s, (serviceTx_status s).status_and nofun rfl rfl fun _ => rfl⟩
  case timeout => exact ⟨checkTimeout_frame s, (checkTimeout_status s).status_and nofun rfl rfl nofun⟩

end Sys2Proof.Machine
end

section
/-! The receive interrupt (R156): what asserts `nmi` and what withdraws it. -/

namespace Sys2Proof.Machine

/-- The ways an operation may write the interrupt assertion: a delivery by one of the two service operations, the host's
data read or INIT, and a timeout that fires (R156). -/
inductive InterruptWrite (i : Instr) (s t : State) : Prop
  | untouched (hn : t.nmiAsserted = s.nmiAsserted)
  | asserted (hi : i = .rxService ∨ i = .txService) (hn : t.nmiAsserted = true)
      (htime : t.nmiAssertTime = s.inputs.nowUs)
  | withdrawn (hi : i = .rdData ∨ i = .init) (hn : t.nmiAsserted = false)
  | timedOut (hi : i = .nmiTimeoutChk) (hlate : s.nmiExpired) (hn : t.nmiAsserted = false)
      (hreport : t.events = s.events ++ [.report .nmiTimeout])

/-- RX_SERVICE leaves `nmi` or asserts it with the stamp (R115, R118). -/
theorem serviceRx_interrupt (s : State) : InterruptWrite .rxService s s.serviceRx := by
  rcases serviceRx_cases s with h | ⟨-, h⟩
  · exact .untouched (by simp [h])
  · rcases dequeue_cases s with hd | hd
    · exact .untouched (by simp [h, hd])
    · exact .asserted (.inl rfl) (by simp [h, hd]) (by simp [h, hd])

/-- TX_SERVICE leaves `nmi` or, with the browser echo, asserts it with the stamp (R134, R118). -/
theorem serviceTx_interrupt (s : State) : InterruptWrite .txService s s.serviceTx := by
  cases serviceTx_branch s with
  | delivered h => exact .asserted (.inr rfl) (by simp [h]) (by simp [h])
  | nothing h | relayed h | queued h | held h => exact .untouched (by simp [h])

/-- NMI_TIMEOUT_CHK leaves `nmi` or, past the bound, withdraws it with the report (R103). -/
theorem checkTimeout_interrupt (s : State) : InterruptWrite .nmiTimeoutChk s s.checkTimeout := by
  by_cases h : s.flag .interruptPending = true ∧ s.nmiExpired
  · have hs : s.checkTimeout = s.withdraw.raise .nmiTimeout := if_pos h
    exact .timedOut rfl h.2 (by simp [hs]) (by simp [hs])
  · have hs : s.checkTimeout = s := if_neg h
    exact .untouched (by rw [hs])

/-- How each operation writes the interrupt assertion. -/
theorem effectOf_interrupt (i : Instr) (s : State) : InterruptWrite i s (effectOf i s) := by
  cases i with
  | rxService => exact serviceRx_interrupt s
  | txService => exact serviceTx_interrupt s
  | nmiTimeoutChk => exact checkTimeout_interrupt s
  | rdData => exact .withdrawn (.inl rfl) rfl
  | init => exact .withdrawn (.inr rfl) rfl
  | tick | rxqPut | rxFlush | escChk => exact .untouched (by simp [effectOf])
  | rdStatus | rdCommand | rdControl | wrData | wrStatus | wrCommand | wrControl | rxqClear => exact .untouched rfl

/-- Settles O40: only a delivery takes `nmi` from 0 to 1, and only from a Ready block. -/
theorem interruptRisesOnlyWhenReady : Obligations.InterruptRisesOnlyWhenReady := by
  intro i s t h hbefore hafter
  obtain ⟨-, rfl⟩ := exec_eq_next.mp h
  have hready : s.ready = true := (effectOf_nmiAsserted hafter).resolve_left (by simp [hbefore])
  have ⟨henabled, _⟩ := (readyIsTheFourConditions s).mp hready
  cases effectOf_interrupt i s with
  | untouched hn => simp [hn, hbefore] at hafter
  | asserted hi _ htime => exact ⟨hi, hready, henabled, htime⟩
  | withdrawn _ hn | timedOut _ _ hn => simp [hn] at hafter

/-- Settles O41: only the data read, INIT and a timeout that fires take `nmi` from 1 to 0. -/
theorem interruptFallsOnlyByReadTimeoutOrInit : Obligations.InterruptFallsOnlyByReadTimeoutOrInit := by
  intro i s t h hbefore hafter
  obtain ⟨-, rfl⟩ := exec_eq_next.mp h
  cases effectOf_interrupt i s with
  | untouched hn => simp [hn, hbefore] at hafter
  | asserted _ hn => simp [hn] at hafter
  | withdrawn hi => exact hi.imp_right .inl
  | timedOut hi hlate _ hreport => exact .inr (.inr ⟨hi, hlate, hreport⟩)

end Sys2Proof.Machine
end

section
/-! INIT and what comes before it (R180, R181), and the two waits that hang while the receive interrupt is disabled
(R122, R190). -/

namespace Sys2Proof.Machine

/-! ### INIT -/

/-- INIT leaves the values of R36; the outputs and what the environment supplies stay (R180). -/
theorem initialise_eq_resetOf (s : State) :
    s.initialise =
      { State.resetOf s.params s.inputs (s.drawNo + 1) with
        events := s.events, dataOut := s.dataOut, agent := s.agent, schedule := s.schedule } := by
  apply State.ext
  case status => exact State.initialise_status s
  all_goals rfl

/-- A block after INIT is Ready exactly when the default command enables the receive interrupt (R32, R36). -/
theorem initialise_ready (s : State) : s.initialise.ready = !s.params.cmdDefault.getLsbD 1 := by
  rw [Bool.eq_iff_iff, readyIsTheFourConditions]
  have hpending : s.initialise.flag .interruptPending = false := by simp
  have hfull : s.initialise.flag .rxFull = false := by simp
  constructor
  · rintro ⟨henabled, -⟩
    exact (Bool.not_eq_true' _).mpr henabled
  · intro henabled
    exact ⟨(Bool.not_eq_true' _).mp henabled, hpending, hfull, rfl⟩

/-- Settles O28: INIT may run in every state, the flags are those of its status byte, and the other values are written
as they stand in R36. -/
theorem initEstablishesTheResetValues : Obligations.InitEstablishesTheResetValues := by
  intro s hs
  refine ⟨s.initialise, exec_of_allowed (init_allowed hs) rfl, ?flags, ⟨rfl, rfl, rfl, rfl, rfl, rfl, rfl, rfl, rfl, rfl⟩,
    ⟨State.used_of_head_eq_tail rfl, initialise_ready s, rfl⟩, rfl, rfl, rfl, rfl, rfl, rfl⟩
  case flags => simp

/-- Settles O29: INIT's state is that of `State.resetOf` as far as the clauses read it, and both memories are empty. -/
theorem initEstablishesTheInvariants : Obligations.InitEstablishesTheInvariants := by
  intro s t hwf h
  obtain ⟨-, rfl⟩ := exec_eq_next.mp h
  have hconsistent : s.initialise.Consistent := by
    rw [initialise_eq_resetOf]
    exact resetOf_consistent hwf s.inputs (s.drawNo + 1)
  exact ⟨hconsistent, ⟨Memory.wf_nil, Memory.below_nil _, Memory.wf_nil, Memory.below_nil _⟩, written_of_empty rfl rfl⟩

/-- INIT is the one operation of its agent (R62). -/
theorem eq_init_of_agentOf {i : Instr} (h : agentOf i = .init) : i = .init := by
  cases i with
  | init => rfl
  | rdData | rdStatus | rdCommand | rdControl | wrData | wrStatus | wrCommand | wrControl | tick | rxqPut | rxqClear
  | rxService | rxFlush | nmiTimeoutChk | txService | escChk => cases h

/-- Settles O34: before INIT only the INIT agent is admitted, and its one operation is INIT. -/
theorem nothingRunsBeforeInit : Obligations.NothingRunsBeforeInit := by
  intro i s t hbefore h
  obtain ⟨hok, -⟩ := exec_eq_next.mp h
  obtain ⟨hagent, hinit, -, -, -⟩ := refusalOf_eq_none.mp hok
  have hissuer : s.agent = .init := hinit.resolve_left (by simp [hbefore])
  exact eq_init_of_agentOf (hagent.symm.trans hissuer)

/-! ### The waits -/

/-- A block with the receive interrupt disabled is not Ready (R20, R32). -/
theorem not_ready_of_disabled {s : State} (h : s.command.getLsbD 1 = true) : s.ready ≠ true := by
  intro hr
  obtain ⟨henabled, -⟩ := (readyIsTheFourConditions s).mp hr
  exact Bool.false_ne_true (henabled.symm.trans h)

/-- Without Ready an attempt of RX_SERVICE on a flush with bytes queued changes nothing (R115). -/
theorem serviceRx_of_hanging {s : State} (hr : s.ready ≠ true) (hu : 0 < s.used) : s.serviceRx = s := by
  rw [serviceRx_of_not_ready fun hc => hr hc.2]
  exact if_neg fun hend => hu.ne' hend.2

/-- Without Ready an attempt of TX_SERVICE on a held browser echo changes nothing (R134, R138). -/
theorem serviceTx_of_hanging {s : State} (hr : s.ready ≠ true) (hp : s.pollPhase = .immWait)
    (hm : s.inputs.mode = .browser) (hw : s.flag .txEmpty = false) : s.serviceTx = s := by
  rw [serviceTx_of_written hw, routeTx_browser hm, State.browserEcho, if_neg hr, ← hp]
  rfl

/-- Inside a wait no operation but an attempt of the waiting one and INIT writes the phase or moves an index of the
ring (R29, R164). -/
theorem exec_waiting_keeps {i : Instr} {s t : State} (h : exec i s = .next t) (hp : s.pollPhase ≠ .idle)
    (hrx : i ≠ .rxService) (htx : i ≠ .txService) (hinit : i ≠ .init) :
    t.pollPhase = s.pollPhase ∧ t.used = s.used := by
  obtain ⟨hok, rfl⟩ := exec_eq_next.mp h
  obtain ⟨-, -, hphase, -, -⟩ := refusalOf_eq_none.mp hok
  cases i with
  | rxService => exact absurd rfl hrx
  | txService => exact absurd rfl htx
  | init => exact absurd rfl hinit
  | rxqPut | rxqClear | rxFlush | escChk => exact absurd (eq_of_beq hphase) hp
  | tick | nmiTimeoutChk =>
    exact ⟨by simp [effectOf], used_congr (by simp [effectOf]) (by simp [effectOf]) (by simp [effectOf])⟩
  | rdData | rdStatus | rdCommand | rdControl | wrData | wrStatus | wrCommand | wrControl => exact ⟨rfl, rfl⟩

/-- Without Ready an attempt of a waiting operation that its phase allows leaves the state as it was (R122, R190). -/
theorem exec_attempt_of_not_ready {i : Instr} {s t : State} (h : exec i s = .next t)
    (hi : i = .rxService ∨ i = .txService) (hr : s.ready ≠ true)
    (hwait : s.pollPhase = .flushing ∧ 0 < s.used ∨
      s.pollPhase = .immWait ∧ s.inputs.mode = .browser ∧ s.flag .txEmpty = false) : t = s := by
  obtain ⟨hok, rfl⟩ := exec_eq_next.mp h
  obtain ⟨-, -, hphase, -, -⟩ := refusalOf_eq_none.mp hok
  rcases hwait with ⟨hp, hu⟩ | ⟨hp, hm, hw⟩ <;> rw [hp] at hphase <;> rcases hi with rfl | rfl
  · exact serviceRx_of_hanging hr hu
  · cases hphase
  · cases hphase
  · exact serviceTx_of_hanging hr hp hm hw

/-- Settles O45: an attempt of the waiting operation changes nothing, and the other operations write neither the phase
nor the queue and do not set txEmpty. -/
theorem waitsHangWhileTheInterruptIsDisabled : Obligations.WaitsHangWhileTheInterruptIsDisabled := by
  intro i s t h hinit hdisabled hwait
  by_cases hi : i = .rxService ∨ i = .txService
  · have hstay : t = s := exec_attempt_of_not_ready h hi (not_ready_of_disabled hdisabled) hwait
    rw [hstay]
    exact ⟨rfl, rfl, id⟩
  · obtain ⟨hrx, htx⟩ := not_or.mp hi
    have hbusy : s.pollPhase ≠ .idle := by
      rcases hwait with ⟨hp, -⟩ | ⟨hp, -⟩ <;> simp [hp]
    obtain ⟨hphase, hused⟩ := exec_waiting_keeps h hbusy hrx htx hinit
    refine ⟨hphase, hused, fun hset => ?_⟩
    by_contra hheld
    rcases (txEmptyIsTheHandshake i s t h).2 (Bool.eq_false_of_not_eq_true hheld) hset with hi | hi
    · exact htx hi
    · exact hinit hi

end Sys2Proof.Machine
end

section
/-! INIT's state as an instance of `State.resetOf` (R36), the refusal of an index out of its space (R43), and the steps
that run no operation (R65, R180). -/

namespace Sys2Proof.Machine

/-- Settles O31: reset is the open instance by definition, and INIT, which may run in every state, leaves the state
`State.resetOf` gives for its own instance. -/
theorem initLeavesTheStateResetIs : Obligations.InitLeavesTheStateResetIs :=
  ⟨rfl, fun s hs => exec_of_allowed (init_allowed hs) (initialise_eq_resetOf s)⟩

/-- A POLL operation that neither the phase nor the page gate stops, but that would use an index out of its space
(R43). -/
theorem exec_of_indexOutOfRange {i : Instr} {s : State} (h : s.OnPoll) (hi : agentOf i = .poll)
    (hp : phaseAllows s.pollPhase i = true) (hg : pageAllows s.pollPhase s.inputs.pagePaused i = true)
    (hu : usesIndices i = true) (hout : ¬ s.indicesInRange) : exec i s = .refused .indexOutOfRange := by
  refine exec_of_refused ((refusalOf_onPoll h hi).trans ?_)
  rw [if_neg (by simp [hp]), if_neg (by simp [hg]), if_pos ⟨hu, hout⟩]

/-- Settles O35: the four operations are POLL's and use the indices, which are the last thing asked for. -/
theorem indexOutOfRangeIsRefused : Obligations.IndexOutOfRangeIsRefused := by
  intro d s h hout i hi hp hg
  have hrow : ∀ i ∈ [Instr.rxqPut d, .rxService, .rxFlush, .txService], agentOf i = .poll ∧ usesIndices i = true := by
    simp [agentOf, usesIndices]
  obtain ⟨hagent, huses⟩ := hrow i hi
  exact exec_of_indexOutOfRange h hagent hp hg huses hout

/-- With no operation issued there is none to fetch (R180). -/
theorem fetch_of_schedule_nil {s : State} (hs : s.schedule = []) : fetch s = none := by
  simp only [fetch, hs]

/-- With nothing fetched the block waits as it is (R180). -/
theorem step_of_fetch_none {s : State} (hf : fetch s = none) : step s = .next s := by
  simp only [step, hf]

/-- A fetched word that is reserved is refused by the decoder's reason (R65). -/
theorem step_of_fetch_error {s t : State} {e : DecodeError} (hf : fetch s = some (.error e, t)) :
    step s = .refused (.reservedDescriptor e) := by
  simp only [step, hf]

/-- Settles O51: the fetch hands on what the decoder says of the first issue's word, and finds nothing in an empty
schedule. -/
theorem stepRefusesAReservedWordAndWaitsForAnOperation :
    Obligations.StepRefusesAReservedWordAndWaitsForAnOperation := by
  intro s
  refine ⟨fun o rest e hs hd => ?reserved, fun hs => ?waits⟩
  case reserved =>
    have hf : fetch s = some (.error e, s.begin o rest) := by rw [fetch_of_schedule_cons hs, hd]
    exact step_of_fetch_error hf
  case waits => exact step_of_fetch_none (fetch_of_schedule_nil hs)

end Sys2Proof.Machine
end
